-- ==== Sys2Proof/Word.lean ====
section
/-! DEFINITION. The unit of the service link and the drive port: one character, 8 data bits
(spec 09 R151). Counts, lengths and times are exact integers and need no word type. -/

namespace Sys2Proof

/-- One character of the service link, or one byte of a drive frame (09 R151, 10 R171). -/
abbrev Byte := BitVec 8

/-- A run of bytes, first sent first. -/
abbrev Bytes := List Byte

end Sys2Proof
end

