-- ==== Sys2Proof/Syntax.lean ====
section
/-! DEFINITION. The commands of the part: one constructor of `Instr` for each row of
spec/opcode_table.json, and the request payloads they carry (11 section 11.3).

Enumerated fields of a request are kept as the number the byte holds, because a value that names no
choice is a request too: it is refused with RANGE (11 R178). -/

namespace Sys2Proof

/-- The four channels, in the order of their codes (11 section 11.2). -/
inductive Channel where
  | xl | xr | y | t
  deriving DecidableEq, Repr

/-- The two edges of the microscope signal (05 R82). -/
inductive Edge where
  | rising | falling
  deriving DecidableEq, Repr

/-- One pair of ADC codes, signed 12-bit (01 R3). -/
structure Pair where
  c : BitVec 12
  s : BitVec 12
  deriving DecidableEq, Repr

/-- One sample arrival as the outside world presents it: the four ports' pairs (01 R3), and how the
races the spec leaves open fall at this arrival (log entry 5).

`captureFirst`: a capture completed by this arrival is taken before the pass abort or the ending of a
wait that the same arrival brings (07 R121, 08 R143).
`trimOrder`: the order in which trim requests raised at this arrival reach the fit unit; channels not
listed follow in code order. -/
structure SampleInput where
  xl : Pair
  xr : Pair
  y  : Pair
  t  : Pair
  captureFirst : Bool
  trimOrder : List Channel
  deriving DecidableEq, Repr

/-- The pair an arrival presents at a channel's port (01 R3). -/
def SampleInput.pairOf (a : SampleInput) : Channel → Pair
  | .xl => a.xl
  | .xr => a.xr
  | .y => a.y
  | .t => a.t

/-- What every request frame carries beside its fields: the frame's address byte (09 R156) and the
tag of the payload header (11 section 11.1). -/
structure Header where
  address : Byte
  tag : Byte
  deriving DecidableEq, Repr

/-- PLACE's fields (06 R97, 11 section 11.3). -/
structure PlaceFields where
  line : Int
  nominal : Int
  halfWidth : Nat
  cls : Nat
  targetFwd : Nat
  targetRev : Nat
  datum : Nat
  initial : Nat
  deriving DecidableEq, Repr

/-- AMEND's fields: each carried or left as it is (06 R100; presence byte of 11 section 11.3). -/
structure AmendFields where
  line : Int
  nominal : Option Int
  halfWidth : Option Nat
  cls : Option Nat
  targetFwd : Option Nat
  targetRev : Option Nat
  datum : Option Nat
  deriving DecidableEq, Repr

/-- STEP's fields (06 R111). -/
structure StepFields where
  mode : Nat
  line : Int
  mask : Nat
  deriving DecidableEq, Repr

/-- CHANNEL_SET's fields (02 section 2.7). -/
structure ChannelFields where
  channel : Nat
  enable : Nat
  source : Nat
  sense : Nat
  synthStep : Int
  floor : Nat
  coastLimit : Nat
  trimInterval : Nat
  deriving DecidableEq, Repr

/-- GEOMETRY_SET's fields (04 R70). -/
structure GeometryFields where
  wVac : Nat
  dXL : Nat
  dXR : Nat
  dY : Nat
  f : Nat
  b : Nat
  deriving DecidableEq, Repr

/-- LINE_SET's fields (05 R81). -/
structure LineFields where
  enable : Nat
  polarity : Nat
  latency : Nat
  spacing : Nat
  deriving DecidableEq, Repr

/-- PASS_SET's fields (07 R125). -/
structure PassFields where
  mode : Nat
  startThr : Nat
  stopThr : Nat
  settle : Nat
  deriving DecidableEq, Repr

/-- The request codes of 11 section 11.3 with the fields that follow the header. -/
inductive Request where
  | place (f : PlaceFields)
  | amend (f : AmendFields)
  | arm (line : Int)
  | disarm (line : Int)
  | retire (line : Int)
  | drop (line : Int)
  | clear (line : Int)
  | read (line : Int)
  | find (position : Int)
  | stepTable (f : StepFields)
  | classOp (mask : Nat) (operation : Nat)
  | tableSummary
  | channelSet (f : ChannelFields)
  | preset (channel : Nat) (p : Int)
  | readChannel (channel : Nat)
  | fit (channel : Nat) (kind : Nat)
  | fitResult (channel : Nat)
  | fitSet (timeoutMs : Nat)
  | airSet (rHost : Int) (ageLimit : Nat) (driftLimit : Nat)
  | trackerSet (tPath : Nat)
  | readAir
  | geometrySet (f : GeometryFields)
  | lineSet (f : LineFields)
  | passSet (f : PassFields)
  | passOpen (direction : Nat)
  | passClose
  | passAbort
  | readPass
  | reref (line : Int) (timeoutS : Nat)
  | rerefCancel
  | rerefResult
  | driveSet (enable : Nat) (period : Nat)
  | status
  | attnMask (events : Nat)
  | linkCounts
  | linkSet (rate : Nat) (group : Nat)
  | restart
  deriving DecidableEq, Repr

/-- The part's commands, one constructor for each row of spec/opcode_table.json. -/
inductive Instr where
  | powerOnReset (straps : Nat)
  | restartLine (active : Bool) (straps : Nat)
  | sampleArrival (a : SampleInput)
  | ageTick
  | check
  | pulseArrival (edge : Edge) (time : Nat)
  | captureFormed
  | fitBegin
  | slotFill
  | fitComplete
  | fitTimerExpiry
  | resetInstall (ch : Channel)
  | rerefTimerExpiry
  | reportExpiry
  | driveFrameEnd
  | receiveCharacter (value : Byte) (stopBit : Bool)
  | gapExpiry
  | bufferedFrameService
  | replySent
  | baudChange
  | restartTaken (straps : Nat)
  | unknownRequest (address : Byte) (payload : Bytes)
  | place (h : Header) (f : PlaceFields)
  | amend (h : Header) (f : AmendFields)
  | arm (h : Header) (line : Int)
  | disarm (h : Header) (line : Int)
  | retire (h : Header) (line : Int)
  | drop (h : Header) (line : Int)
  | clear (h : Header) (line : Int)
  | read (h : Header) (line : Int)
  | find (h : Header) (position : Int)
  | stepTable (h : Header) (f : StepFields)
  | classOpArm (h : Header) (mask : Nat)
  | classOpDisarm (h : Header) (mask : Nat)
  | classOpRetire (h : Header) (mask : Nat)
  | classOpDrop (h : Header) (mask : Nat)
  | classOpClear (h : Header) (mask : Nat)
  | tableSummary (h : Header)
  | channelSet (h : Header) (f : ChannelFields)
  | preset (h : Header) (channel : Nat) (p : Int)
  | readChannel (h : Header) (channel : Nat)
  | fit (h : Header) (channel : Nat) (kind : Nat)
  | fitReset (h : Header) (channel : Nat)
  | fitResult (h : Header) (channel : Nat)
  | fitSet (h : Header) (timeoutMs : Nat)
  | airSet (h : Header) (rHost : Int) (ageLimit : Nat) (driftLimit : Nat)
  | trackerSet (h : Header) (tPath : Nat)
  | readAir (h : Header)
  | geometrySet (h : Header) (f : GeometryFields)
  | lineSet (h : Header) (f : LineFields)
  | passSet (h : Header) (f : PassFields)
  | passOpen (h : Header) (direction : Nat)
  | passClose (h : Header)
  | passAbort (h : Header)
  | readPass (h : Header)
  | reref (h : Header) (line : Int) (timeoutS : Nat)
  | rerefCancel (h : Header)
  | rerefResult (h : Header)
  | driveSet (h : Header) (enable : Nat) (period : Nat)
  | status (h : Header)
  | attnMask (h : Header) (events : Nat)
  | linkCounts (h : Header)
  | linkSet (h : Header) (rate : Nat) (group : Nat)
  | restart (h : Header)
  deriving DecidableEq, Repr

end Sys2Proof
end

