-- ==== Sys2Proof/Decode.lean ====
section
/-! DEFINITION. Request payloads as bytes (11 sections 11.1 to 11.3): the byte order of fields, the
decoder from a payload to a request, total on any bytes, and the encoder. The opcode table gives no
command any bits, so `decodeTableWord` answers none. -/

namespace Sys2Proof

/-- 11 R177: an unsigned field of `w` bytes, most significant byte first. -/
def beBytes : Nat → Nat → Bytes
  | 0, _ => []
  | w + 1, n => BitVec.ofNat 8 (n / 256 ^ w) :: beBytes w n

/-- The number that bytes, most significant first, hold. -/
def beNat (bs : Bytes) : Nat :=
  bs.foldl (fun acc b => 256 * acc + b.toNat) 0

/-- 11 R177: the two's complement reading of the low `w` bytes of a number. -/
def toSigned (w n : Nat) : Int :=
  if n < 256 ^ w / 2 then (n : Int) else (n : Int) - ((256 ^ w : Nat) : Int)

/-- 11 R177: the two's complement code of an integer in `w` bytes. -/
def ofSigned (w : Nat) (i : Int) : Nat :=
  (i % ((256 ^ w : Nat) : Int)).toNat

/-- The unsigned field of `w` bytes at an offset of a payload. -/
def fieldU (off w : Nat) (p : Bytes) : Nat :=
  beNat ((p.drop off).take w)

/-- The signed field of `w` bytes at an offset of a payload. -/
def fieldS (off w : Nat) (p : Bytes) : Int :=
  toSigned w (fieldU off w p)

/-- A signed field of `w` bytes as bytes. -/
def sBytes (w : Nat) (i : Int) : Bytes :=
  beBytes w (ofSigned w i)

/-- AMEND's presence byte marks a carried field by its bit; the field's bytes are not looked at when
the bit is clear (11 R178). -/
def carried {α : Type} (presence bit : Nat) (v : α) : Option α :=
  if presence.testBit bit then some v else none

/-- The bit of AMEND's presence byte for one field. -/
def presenceBit {α : Type} (bit : Nat) : Option α → Nat
  | some _ => 2 ^ bit
  | none => 0

/-- 11 section 11.3: the payload length of each request code; none for a code that is not in the
catalogue. -/
def requestLen (code : Nat) : Option Nat :=
  if code = 0x01 ∨ code = 0x02 then some 21
  else if 0x03 ≤ code ∧ code ≤ 0x08 then some 6
  else if code = 0x09 ∨ code = 0x0A then some 8
  else if code = 0x0B then some 4
  else if code = 0x0C then some 2
  else if code = 0x20 then some 13
  else if code = 0x21 then some 9
  else if code = 0x22 then some 3
  else if code = 0x28 then some 4
  else if code = 0x29 then some 3
  else if code = 0x2A then some 6
  else if code = 0x30 then some 10
  else if code = 0x31 then some 6
  else if code = 0x32 then some 2
  else if code = 0x33 then some 26
  else if code = 0x38 then some 12
  else if code = 0x40 then some 13
  else if code = 0x41 then some 3
  else if 0x42 ≤ code ∧ code ≤ 0x44 then some 2
  else if code = 0x48 then some 8
  else if code = 0x49 ∨ code = 0x4A then some 2
  else if code = 0x50 then some 7
  else if code = 0x58 then some 2
  else if code = 0x59 then some 4
  else if code = 0x60 then some 2
  else if code = 0x61 then some 7
  else if code = 0x62 then some 2
  else none

/-- The fields of a payload whose code and length agree with 11 section 11.3. -/
def parseFields (code : Nat) (p : Bytes) : Option Request :=
  match code with
  | 0x01 => some (.place ⟨fieldS 2 4 p, fieldS 6 6 p, fieldU 12 4 p, fieldU 16 1 p, fieldU 17 1 p,
      fieldU 18 1 p, fieldU 19 1 p, fieldU 20 1 p⟩)
  | 0x02 =>
    let pr := fieldU 6 1 p
    some (.amend ⟨fieldS 2 4 p, carried pr 0 (fieldS 7 6 p), carried pr 1 (fieldU 13 4 p),
      carried pr 2 (fieldU 17 1 p), carried pr 3 (fieldU 18 1 p), carried pr 4 (fieldU 19 1 p),
      carried pr 5 (fieldU 20 1 p)⟩)
  | 0x03 => some (.arm (fieldS 2 4 p))
  | 0x04 => some (.disarm (fieldS 2 4 p))
  | 0x05 => some (.retire (fieldS 2 4 p))
  | 0x06 => some (.drop (fieldS 2 4 p))
  | 0x07 => some (.clear (fieldS 2 4 p))
  | 0x08 => some (.read (fieldS 2 4 p))
  | 0x09 => some (.find (fieldS 2 6 p))
  | 0x0A => some (.stepTable ⟨fieldU 2 1 p, fieldS 3 4 p, fieldU 7 1 p⟩)
  | 0x0B => some (.classOp (fieldU 2 1 p) (fieldU 3 1 p))
  | 0x0C => some .tableSummary
  | 0x20 => some (.channelSet ⟨fieldU 2 1 p, fieldU 3 1 p, fieldU 4 1 p, fieldU 5 1 p, fieldS 6 2 p,
      fieldU 8 2 p, fieldU 10 2 p, fieldU 12 1 p⟩)
  | 0x21 => some (.preset (fieldU 2 1 p) (fieldS 3 6 p))
  | 0x22 => some (.readChannel (fieldU 2 1 p))
  | 0x28 => some (.fit (fieldU 2 1 p) (fieldU 3 1 p))
  | 0x29 => some (.fitResult (fieldU 2 1 p))
  | 0x2A => some (.fitSet (fieldU 2 4 p))
  | 0x30 => some (.airSet (fieldS 2 4 p) (fieldU 6 2 p) (fieldU 8 2 p))
  | 0x31 => some (.trackerSet (fieldU 2 4 p))
  | 0x32 => some .readAir
  | 0x33 => some (.geometrySet ⟨fieldU 2 4 p, fieldU 6 4 p, fieldU 10 4 p, fieldU 14 4 p,
      fieldU 18 4 p, fieldU 22 4 p⟩)
  | 0x38 => some (.lineSet ⟨fieldU 2 1 p, fieldU 3 1 p, fieldU 4 4 p, fieldU 8 4 p⟩)
  | 0x40 => some (.passSet ⟨fieldU 2 1 p, fieldU 3 4 p, fieldU 7 4 p, fieldU 11 2 p⟩)
  | 0x41 => some (.passOpen (fieldU 2 1 p))
  | 0x42 => some .passClose
  | 0x43 => some .passAbort
  | 0x44 => some .readPass
  | 0x48 => some (.reref (fieldS 2 4 p) (fieldU 6 2 p))
  | 0x49 => some .rerefCancel
  | 0x4A => some .rerefResult
  | 0x50 => some (.driveSet (fieldU 2 1 p) (fieldU 3 4 p))
  | 0x58 => some .status
  | 0x59 => some (.attnMask (fieldU 2 2 p))
  | 0x60 => some .linkCounts
  | 0x61 => some (.linkSet (fieldU 2 4 p) (fieldU 6 1 p))
  | 0x62 => some .restart
  | _ => none

/-- What the link makes of a payload before it hands anything to an owner (09 R158). -/
inductive Decoded where
  | request (tag : Byte) (r : Request)
  | unknown (code : Byte) (tag : Option Byte)
  | badLength (code : Byte) (tag : Option Byte)
  deriving DecidableEq, Repr

/-- 09 R158 steps 1 and 2: an unknown code, a payload of the wrong length, or a request. The empty
payload cannot come from a frame (R152); it counts as too short. -/
def decodePayload (p : Bytes) : Decoded :=
  match p with
  | [] => .badLength 0 none
  | code :: rest =>
    match requestLen code.toNat with
    | none => .unknown code rest.head?
    | some n =>
      if p.length = n then
        match parseFields code.toNat p with
        | some r => .request (rest.headD 0) r
        | none => .unknown code rest.head?
      else .badLength code rest.head?

/-- 11 section 11.3: the code of a request. -/
def Request.code : Request → Byte
  | .place _ => 0x01
  | .amend _ => 0x02
  | .arm _ => 0x03
  | .disarm _ => 0x04
  | .retire _ => 0x05
  | .drop _ => 0x06
  | .clear _ => 0x07
  | .read _ => 0x08
  | .find _ => 0x09
  | .stepTable _ => 0x0A
  | .classOp _ _ => 0x0B
  | .tableSummary => 0x0C
  | .channelSet _ => 0x20
  | .preset _ _ => 0x21
  | .readChannel _ => 0x22
  | .fit _ _ => 0x28
  | .fitResult _ => 0x29
  | .fitSet _ => 0x2A
  | .airSet _ _ _ => 0x30
  | .trackerSet _ => 0x31
  | .readAir => 0x32
  | .geometrySet _ => 0x33
  | .lineSet _ => 0x38
  | .passSet _ => 0x40
  | .passOpen _ => 0x41
  | .passClose => 0x42
  | .passAbort => 0x43
  | .readPass => 0x44
  | .reref _ _ => 0x48
  | .rerefCancel => 0x49
  | .rerefResult => 0x4A
  | .driveSet _ _ => 0x50
  | .status => 0x58
  | .attnMask _ => 0x59
  | .linkCounts => 0x60
  | .linkSet _ _ => 0x61
  | .restart => 0x62

/-- AMEND's presence byte (11 section 11.3). -/
def AmendFields.presence (f : AmendFields) : Nat :=
  presenceBit 0 f.nominal + presenceBit 1 f.halfWidth + presenceBit 2 f.cls
    + presenceBit 3 f.targetFwd + presenceBit 4 f.targetRev + presenceBit 5 f.datum

/-- The bytes of a request's fields, after the header. -/
def Request.fieldBytes : Request → Bytes
  | .place f => sBytes 4 f.line ++ sBytes 6 f.nominal ++ beBytes 4 f.halfWidth ++ beBytes 1 f.cls
      ++ beBytes 1 f.targetFwd ++ beBytes 1 f.targetRev ++ beBytes 1 f.datum ++ beBytes 1 f.initial
  | .amend f => sBytes 4 f.line ++ beBytes 1 f.presence ++ sBytes 6 (f.nominal.getD 0)
      ++ beBytes 4 (f.halfWidth.getD 0) ++ beBytes 1 (f.cls.getD 0) ++ beBytes 1 (f.targetFwd.getD 0)
      ++ beBytes 1 (f.targetRev.getD 0) ++ beBytes 1 (f.datum.getD 0)
  | .arm l => sBytes 4 l
  | .disarm l => sBytes 4 l
  | .retire l => sBytes 4 l
  | .drop l => sBytes 4 l
  | .clear l => sBytes 4 l
  | .read l => sBytes 4 l
  | .find x => sBytes 6 x
  | .stepTable f => beBytes 1 f.mode ++ sBytes 4 f.line ++ beBytes 1 f.mask
  | .classOp m o => beBytes 1 m ++ beBytes 1 o
  | .tableSummary => []
  | .channelSet f => beBytes 1 f.channel ++ beBytes 1 f.enable ++ beBytes 1 f.source
      ++ beBytes 1 f.sense ++ sBytes 2 f.synthStep ++ beBytes 2 f.floor ++ beBytes 2 f.coastLimit
      ++ beBytes 1 f.trimInterval
  | .preset c p => beBytes 1 c ++ sBytes 6 p
  | .readChannel c => beBytes 1 c
  | .fit c k => beBytes 1 c ++ beBytes 1 k
  | .fitResult c => beBytes 1 c
  | .fitSet t => beBytes 4 t
  | .airSet r a d => sBytes 4 r ++ beBytes 2 a ++ beBytes 2 d
  | .trackerSet t => beBytes 4 t
  | .readAir => []
  | .geometrySet f => beBytes 4 f.wVac ++ beBytes 4 f.dXL ++ beBytes 4 f.dXR ++ beBytes 4 f.dY
      ++ beBytes 4 f.f ++ beBytes 4 f.b
  | .lineSet f => beBytes 1 f.enable ++ beBytes 1 f.polarity ++ beBytes 4 f.latency
      ++ beBytes 4 f.spacing
  | .passSet f => beBytes 1 f.mode ++ beBytes 4 f.startThr ++ beBytes 4 f.stopThr
      ++ beBytes 2 f.settle
  | .passOpen d => beBytes 1 d
  | .passClose => []
  | .passAbort => []
  | .readPass => []
  | .reref l t => sBytes 4 l ++ beBytes 2 t
  | .rerefCancel => []
  | .rerefResult => []
  | .driveSet e n => beBytes 1 e ++ beBytes 4 n
  | .status => []
  | .attnMask e => beBytes 2 e
  | .linkCounts => []
  | .linkSet r g => beBytes 4 r ++ beBytes 1 g
  | .restart => []

/-- The payload of a request frame: code, tag, fields (11 section 11.1). -/
def encodePayload (tag : Byte) (r : Request) : Bytes :=
  r.code :: tag :: r.fieldBytes

/-- The request a request command stands for, with its header; none for the other commands. -/
def Instr.request : Instr → Option (Header × Request)
  | .place h f => some (h, .place f)
  | .amend h f => some (h, .amend f)
  | .arm h l => some (h, .arm l)
  | .disarm h l => some (h, .disarm l)
  | .retire h l => some (h, .retire l)
  | .drop h l => some (h, .drop l)
  | .clear h l => some (h, .clear l)
  | .read h l => some (h, .read l)
  | .find h x => some (h, .find x)
  | .stepTable h f => some (h, .stepTable f)
  | .classOpArm h m => some (h, .classOp m 0)
  | .classOpDisarm h m => some (h, .classOp m 1)
  | .classOpRetire h m => some (h, .classOp m 2)
  | .classOpDrop h m => some (h, .classOp m 3)
  | .classOpClear h m => some (h, .classOp m 4)
  | .tableSummary h => some (h, .tableSummary)
  | .channelSet h f => some (h, .channelSet f)
  | .preset h c p => some (h, .preset c p)
  | .readChannel h c => some (h, .readChannel c)
  | .fit h c k => some (h, .fit c k)
  | .fitReset h c => some (h, .fit c 2)
  | .fitResult h c => some (h, .fitResult c)
  | .fitSet h t => some (h, .fitSet t)
  | .airSet h r a d => some (h, .airSet r a d)
  | .trackerSet h t => some (h, .trackerSet t)
  | .readAir h => some (h, .readAir)
  | .geometrySet h f => some (h, .geometrySet f)
  | .lineSet h f => some (h, .lineSet f)
  | .passSet h f => some (h, .passSet f)
  | .passOpen h d => some (h, .passOpen d)
  | .passClose h => some (h, .passClose)
  | .passAbort h => some (h, .passAbort)
  | .readPass h => some (h, .readPass)
  | .reref h l t => some (h, .reref l t)
  | .rerefCancel h => some (h, .rerefCancel)
  | .rerefResult h => some (h, .rerefResult)
  | .driveSet h e n => some (h, .driveSet e n)
  | .status h => some (h, .status)
  | .attnMask h e => some (h, .attnMask e)
  | .linkCounts h => some (h, .linkCounts)
  | .linkSet h r g => some (h, .linkSet r g)
  | .restart h => some (h, .restart)
  | .powerOnReset _ => none
  | .restartLine _ _ => none
  | .sampleArrival _ => none
  | .ageTick => none
  | .check => none
  | .pulseArrival _ _ => none
  | .captureFormed => none
  | .fitBegin => none
  | .slotFill => none
  | .fitComplete => none
  | .fitTimerExpiry => none
  | .resetInstall _ => none
  | .rerefTimerExpiry => none
  | .reportExpiry => none
  | .driveFrameEnd => none
  | .receiveCharacter _ _ => none
  | .gapExpiry => none
  | .bufferedFrameService => none
  | .replySent => none
  | .baudChange => none
  | .restartTaken _ => none
  | .unknownRequest _ _ => none

/-- The command that a word spells by the table's bits. No row of spec/opcode_table.json gives any
bits, so no word spells a command. -/
def decodeTableWord (_nbits _w : Nat) : Option Instr :=
  none

end Sys2Proof
end

