-- ==== Sys2Proof/Config.lean ====
section
/-! DEFINITION. The part's fixed numbers, and the two values the spec leaves open. -/

namespace Sys2Proof

/-- Free value (log entry 7): what a report of "the newest sample" gives before sample 0 has been
handled. The spec states no value; `State.freeCount` picks a fresh one for every use. -/
opaque Config.indexBeforeFirstSample : Nat → Nat

/-- Free value (log entry 8): the tag copied into the reply to a one-byte payload, which holds no tag
(09 R158 step 1, 11 section 11.1). -/
opaque Config.tagOfShortPayload : Nat → Byte

/-- 02 R17: the largest magnitude of a count, 2^47 − 1 pu. -/
def Config.countMax : Int := 140737488355327

/-- 01 R5, 07 R130: top of a 32-bit saturating counter. -/
def Config.top32 : Nat := 4294967295

/-- 06 R93, 09 R161: top of a 16-bit saturating counter. -/
def Config.top16 : Nat := 65535

/-- 06 R92: places of the line table. -/
def Config.tablePlaces : Nat := 2048

/-- 05 R79: entries of the look-back window. -/
def Config.windowEntries : Nat := 64

/-- 02 R29: pu of travel in one unit of the trim interval. -/
def Config.trimUnit : Nat := 1048576

/-- 04 section 4.1: 2^24, the fraction of W_vac and W_eff. -/
def Config.wScale : Int := 16777216

/-- 04 R66: samples in one millisecond. -/
def Config.samplesPerMs : Nat := 10000

/-- 08 R142: samples in one second. -/
def Config.samplesPerSecond : Nat := 10000000

/-- 09 R151: the link clock, in Hz. -/
def Config.linkClock : Nat := 48000000

end Sys2Proof
end

