-- ==== Sys2Proof/Machine/State.lean ====
section
/-! DEFINITION. Everything the spec says the part holds, block by block, as plain data; the reasons a
step can stop; and the part right after power-on reset. -/

namespace Sys2Proof.Machine

/-- One value for each channel. -/
structure PerChannel (α : Type) where
  xl : α
  xr : α
  y  : α
  t  : α
  deriving DecidableEq, Repr

/-- The value of one channel. -/
def PerChannel.get {α : Type} (p : PerChannel α) : Channel → α
  | .xl => p.xl
  | .xr => p.xr
  | .y => p.y
  | .t => p.t

/-- The same values but for one channel. -/
def PerChannel.set {α : Type} (p : PerChannel α) (ch : Channel) (v : α) : PerChannel α :=
  match ch with
  | .xl => { p with xl := v }
  | .xr => { p with xr := v }
  | .y => { p with y := v }
  | .t => { p with t := v }

/-- The same value for every channel. -/
def PerChannel.all {α : Type} (v : α) : PerChannel α := ⟨v, v, v, v⟩

/-! ### Front ends (01) -/

/-- An ellipse parameter set (01 R6). -/
structure EllipseSet where
  offsetC : Int
  offsetS : Int
  g : Int
  sigma : Int
  deriving DecidableEq, Repr

/-- The nominal set (01 R6). -/
def EllipseSet.nominal : EllipseSet := ⟨0, 0, 32768, 0⟩

/-- Source of a front end's pairs (01 R4). -/
inductive Source where
  | detector | synthetic
  deriving DecidableEq, Repr

/-- Sense of a channel (01 R10). -/
inductive Sense where
  | normal | inverted
  deriving DecidableEq, Repr

/-- A sample front end (01 R14). -/
structure FrontEnd where
  params : EllipseSet
  source : Source
  sense : Sense
  synthStep : Int
  synthAngle : Nat
  clipCount : Nat
  phase : Nat
  amplitude : Nat
  clipped : Bool
  deriving DecidableEq, Repr

/-! ### Fringe counters (02) -/

/-- Channel states (02 section 2.1). -/
inductive ChannelState where
  | off | dark | unreferenced | tracking | coasting
  deriving DecidableEq, Repr

/-- A fringe counter (02 section 2.1). -/
structure Counter where
  state : ChannelState
  p : Int
  lastPhase : Nat
  lastStep : Int
  acquireRun : Nat
  coastRun : Nat
  epoch : BitVec 32
  r0 : Int
  floor : Nat
  coastLimit : Nat
  trimInterval : Nat
  trimTravel : Nat
  deriving DecidableEq, Repr

/-- One channel: its front end and its fringe counter. The channel is enabled exactly when its
counter is not OFF (01 R14, 02 R31, R32). -/
structure ChannelUnit where
  front : FrontEnd
  counter : Counter
  deriving DecidableEq, Repr

/-! ### Fit unit (03) -/

/-- Kinds of a fit that collects samples (03 R40). -/
inductive EstimateKind where
  | long | short
  deriving DecidableEq, Repr

/-- Kinds of fit named in a result record (03 section 3.8). -/
inductive FitKind where
  | long | short | reset
  deriving DecidableEq, Repr

/-- Origin of a fit request (03 section 3.1). -/
inductive FitOrigin where
  | host | trim
  deriving DecidableEq, Repr

/-- Outcomes of a fit (03 R54). -/
inductive FitOutcome where
  | applied | appliedClamped | rejectedWeak | rejectedJump | abandonedSignal | abandonedTimeout
  | abandonedReset | abandonedRestart | abandonedDisabled
  deriving DecidableEq, Repr

/-- A request in the working slot or the waiting queue (03 section 3.1). -/
structure FitRequest where
  channel : Channel
  kind : EstimateKind
  origin : FitOrigin
  deriving DecidableEq, Repr

/-- The fit timer while it runs: the index of the fit's first sample and the timeout it began with
(03 R45, R46). -/
structure FitTimer where
  firstSample : Nat
  timeoutMs : Nat
  deriving DecidableEq, Repr

/-- The extremes of the unclipped samples of a fit (03 R43). -/
structure Extremes where
  maxC : Int
  minC : Int
  maxS : Int
  minS : Int
  sAtMaxC : Int
  deriving DecidableEq, Repr

/-- The extremes accumulator (03 R43). -/
structure Accumulator where
  observed : Nat
  unclipped : Nat
  travel : Nat
  extremes : Option Extremes
  deriving DecidableEq, Repr

/-- The empty accumulator (03 R43). -/
def Accumulator.empty : Accumulator := ⟨0, 0, 0, none⟩

/-- A channel's result record (03 section 3.8). `twiceA` and `twiceB` are the half-axes in half codes.
`weakOffsets` holds the offsets a REJECTED_WEAK long fit computed and keeps (03 R47). -/
structure FitResult where
  kind : FitKind
  origin : FitOrigin
  outcome : FitOutcome
  endSample : Nat
  observed : Nat
  unclipped : Nat
  travel : Nat
  extremes : Option Extremes
  halfAxes : Option (Int × Int)
  oldSet : EllipseSet
  newSet : Option EllipseSet
  jump : Option Int
  weakOffsets : Option (Int × Int)
  deriving DecidableEq, Repr

/-- The fit unit (03 section 3.1). -/
structure FitUnit where
  working : Option FitRequest
  queue : List FitRequest
  pendingReset : PerChannel Bool
  timeoutMs : Nat
  timer : Option FitTimer
  acc : Accumulator
  result : PerChannel (Option FitResult)
  deriving DecidableEq, Repr

/-! ### Compensation unit (04) -/

/-- The tracker snapshot (04 section 4.1). -/
structure Snapshot where
  tSnap : Int
  epoch : BitVec 32
  deriving DecidableEq, Repr

/-- The compensation record (04 section 4.1). `ageSamples` counts the samples toward the next
millisecond of the age (04 R66). -/
structure AirUnit where
  rHost : Int
  ageMs : Nat
  ageSamples : Nat
  ageLimit : Nat
  driftLimit : Nat
  snapshot : Option Snapshot
  tPath : Nat
  wVac : Nat
  dXL : Nat
  dXR : Nat
  dY : Nat
  stale : Bool
  drift : Bool
  deriving DecidableEq, Repr

/-! ### Axis combiner and line input (05) -/

/-- Reference mark of a look-back window entry (02 R28). -/
inductive RefMark where
  | ref | coast | unref
  deriving DecidableEq, Repr

/-- One entry of the look-back window (05 section 5.2). -/
structure WindowEntry where
  index : Nat
  pXL : Int
  pXR : Int
  pY : Int
  markXL : RefMark
  markXR : RefMark
  markY : RefMark
  deriving DecidableEq, Repr

/-- The axis combiner: geometry and look-back window, newest entry first (05 sections 5.1, 5.2). -/
structure AxisUnit where
  f : Nat
  b : Nat
  window : List WindowEntry
  deriving DecidableEq, Repr

/-- The accepted pulse whose capture is not yet formed: its bracket sample and offset (05 R84). -/
structure InFlight where
  k : Nat
  tOff : Nat
  deriving DecidableEq, Repr

/-- The line input (05 section 5.3). -/
structure LineInput where
  enable : Bool
  polarity : Edge
  latency : Nat
  spacing : Nat
  lastEdge : Option Nat
  inFlight : Option InFlight
  deriving DecidableEq, Repr

/-- Motion direction of a capture, and the code NONE of the Direction field (05 R86). -/
inductive Motion where
  | none | fwd | rev
  deriving DecidableEq, Repr

/-- Direction of a pass, of a half and of a pending part (07 section 7.1). -/
inductive Direction where
  | fwd | rev
  deriving DecidableEq, Repr

/-- Capture marks (05 R87; bits of 11 section 11.2). -/
structure Marks where
  coasted : Bool
  stale : Bool
  drift : Bool
  noTracker : Bool
  noY : Bool
  deriving DecidableEq, Repr

/-! ### Line table (06) -/

/-- Record states (06 section 6.2). -/
inductive RecordState where
  | dormant | primed | armed | taken | missed | retired
  deriving DecidableEq, Repr

/-- Statistics of one direction (06 R93). -/
structure Half where
  n : Nat
  sumX : Int
  minX : Int
  maxX : Int
  lastX : Int
  ny : Nat
  sumY : Int
  flagged : Nat
  lastPass : BitVec 32
  deriving DecidableEq, Repr

/-- The capture held for the open pass (06 R94). -/
structure PendingPart where
  x : Int
  y : Option Int
  marks : Marks
  direction : Direction
  pass : BitVec 32
  double : Bool
  deriving DecidableEq, Repr

/-- A line record (06 section 6.1). -/
structure LineRecord where
  line : Int
  nominal : Int
  halfWidth : Nat
  cls : Nat
  targetFwd : Nat
  targetRev : Nat
  datum : Bool
  state : RecordState
  misses : Nat
  doubles : Nat
  complete : Bool
  full : Bool
  fwd : Option Half
  rev : Option Half
  pending : Option PendingPart
  deriving DecidableEq, Repr

/-! ### Pass monitor (07) -/

/-- Pass mode, and origin of a pass (07 section 7.1). -/
inductive PassMode where
  | auto | host
  deriving DecidableEq, Repr

/-- The seven counters of a pass (07 section 7.1). -/
structure PassCounters where
  delivered : Nat
  taken : Nat
  late : Nat
  doubles : Nat
  strays : Nat
  crowded : Nat
  flagged : Nat
  deriving DecidableEq, Repr

/-- The counters at the opening of a pass (07 R120). -/
def PassCounters.zero : PassCounters := ⟨0, 0, 0, 0, 0, 0, 0⟩

/-- Context of the open pass (07 section 7.1). -/
structure PassContext where
  number : BitVec 32
  direction : Direction
  origin : PassMode
  opening : Nat
  xStart : Int
  xFar : Int
  settleRun : Nat
  counters : PassCounters
  deriving DecidableEq, Repr

/-- Outcome of a pass (07 section 7.4). -/
inductive PassOutcome where
  | complete | aborted
  deriving DecidableEq, Repr

/-- Reason of a pass's close (07 R122, R123). -/
inductive PassReason where
  | standstill | reversal | closeRequest | referenceLost | disabled | abortRequest | restart
  deriving DecidableEq, Repr

/-- The last-pass summary (07 R124). -/
structure PassSummary where
  number : BitVec 32
  direction : Direction
  origin : PassMode
  opening : Nat
  closing : Nat
  outcome : PassOutcome
  reason : PassReason
  xStart : Int
  xFar : Int
  counters : PassCounters
  misses : Nat
  committed : Nat
  deriving DecidableEq, Repr

/-- The pass monitor (07 section 7.1). -/
structure PassUnit where
  context : Option PassContext
  mode : PassMode
  startThr : Nat
  stopThr : Nat
  settle : Nat
  prevX : Option Int
  number : BitVec 32
  idleStrays : Nat
  last : Option PassSummary
  deriving DecidableEq, Repr

/-! ### Reference control (08) -/

/-- A wait in force (08 section 8.1). -/
structure Wait where
  line : Int
  targetFwd : Option Int
  targetRev : Option Int
  timeoutS : Nat
  accepting : Nat
  validFrom : Nat
  discarded : Nat
  deriving DecidableEq, Repr

/-- Outcomes of a wait (08 section 8.1). -/
inductive RerefOutcome where
  | done | failedTimeout | failedSignal | failedNoMotion | failedCancelled | failedRestart
  deriving DecidableEq, Repr

/-- The capture fields a result record keeps (08 section 8.1). -/
structure RerefCapture where
  k : Nat
  tOff : Nat
  direction : Motion
  marks : Marks
  ref : Bool
  x : Int
  yaw : Int
  rEff : Int
  wEff : Int
  deriving DecidableEq, Repr

/-- What a DONE wait applied (08 section 8.1). -/
structure RerefApplied where
  half : Direction
  target : Int
  pathXL : Int
  pathXR : Int
  dpXL : Int
  dpXR : Int
  deriving DecidableEq, Repr

/-- The result record of the last wait (08 section 8.1). -/
structure RerefResult where
  outcome : RerefOutcome
  line : Int
  accepting : Nat
  endSample : Nat
  discarded : Nat
  capture : Option RerefCapture
  applied : Option RerefApplied
  deriving DecidableEq, Repr

/-- Reference control: IDLE while `wait` is none (08 section 8.1). -/
structure RerefUnit where
  wait : Option Wait
  result : Option RerefResult
  deriving DecidableEq, Repr

/-! ### Service link (09) -/

/-- Receiver states (09 R152). -/
inductive RxState where
  | hunt | address | length | payload | crcHigh | crcLow
  deriving DecidableEq, Repr

/-- The receiver and the frame in reception (09 opening table). -/
structure Receiver where
  state : RxState
  address : Byte
  len : Nat
  payload : Bytes
  high : Byte
  crc : BitVec 16
  deriving DecidableEq, Repr

/-- The receiver in HUNT with no frame in reception. -/
def Receiver.hunting : Receiver := ⟨.hunt, 0, 0, [], 0, 0⟩

/-- Reply statuses (09 R160). -/
inductive Status where
  | ok | adjusted | accepted | unknown | length | range | notFound | exists_ | order | overlap
  | tableFull | state | inPass | busy
  deriving DecidableEq, Repr

/-- What the end of a reply brings: nothing, a new baud divisor (09 R163), or a restart (09 R164). -/
inductive AfterReply where
  | nothing | baud (divisor : Nat) | restart
  deriving DecidableEq, Repr

/-- The reply of the request in service (09 R159): the address it carries, code, tag, status and
data. -/
structure Reply where
  address : Byte
  code : Byte
  tag : Byte
  status : Status
  data : Bytes
  deriving DecidableEq, Repr

/-- An own request in service: served, its reply being sent (09 R159). -/
structure InService where
  reply : Reply
  after : AfterReply
  deriving DecidableEq, Repr

/-- A checked frame in the receive buffer: whether it is answered, and its payload (09 R157). -/
structure Frame where
  own : Bool
  payload : Bytes
  deriving DecidableEq, Repr

/-- The link counters (09 R161). -/
structure LinkCounters where
  gapAborts : Nat
  lengthErrors : Nat
  crcErrors : Nat
  overruns : Nat
  characterErrors : Nat
  deriving DecidableEq, Repr

/-- All five link counters at 0. -/
def LinkCounters.zero : LinkCounters := ⟨0, 0, 0, 0, 0⟩

/-- The service link (09 opening table). -/
structure LinkUnit where
  station : Option Byte
  group : Byte
  divisor : Nat
  rx : Receiver
  inService : Option InService
  buffer : Option Frame
  counters : LinkCounters
  deriving DecidableEq, Repr

/-! ### Drive port and status unit (10) -/

/-- The drive port (10 section 10.1). -/
structure DriveUnit where
  enable : Bool
  period : Nat
  timer : Nat
  seq : BitVec 16
  lastXYaw : Option (Int × Int)
  lastY : Option Int
  sending : Option Bytes
  deriving DecidableEq, Repr

/-- The twelve sticky events, bit by bit as the event field numbers them (11 section 11.2). -/
abbrev EventSet := BitVec 12

/-- The sticky events (10 section 10.5). -/
inductive Event where
  | lostXL | lostXR | lostY | lostT | passDone | passAborted | fitDone | compStale | compDrift
  | rerefEnd | linkFault | restarted
  deriving DecidableEq, Repr

/-- The bit of an event in the event field (11 section 11.2). -/
def Event.index : Event → Nat
  | .lostXL => 0
  | .lostXR => 1
  | .lostY => 2
  | .lostT => 3
  | .passDone => 4
  | .passAborted => 5
  | .fitDone => 6
  | .compStale => 7
  | .compDrift => 8
  | .rerefEnd => 9
  | .linkFault => 10
  | .restarted => 11

/-- The set that holds one event. -/
def Event.single (e : Event) : EventSet := BitVec.twoPow 12 e.index

/-- The status unit (10 section 10.5). -/
structure StatusUnit where
  sticky : EventSet
  mask : EventSet
  deriving DecidableEq, Repr

/-! ### The model's own fields -/

/-- What one channel's front end and counter handed on at the newest arrival (01 R11, 03 R43): the
working pair, its clipped mark, and the step the counter accepted, if any. -/
structure ChannelSample where
  c : Int
  s : Int
  clipped : Bool
  step : Option Int
  deriving DecidableEq, Repr

/-- 02 R28, 04 R59: the tracker values of the newest sample: P_T, the T epoch and the T state as the T
fringe counter formed them for it. -/
structure TrackerValues where
  p : Int
  epoch : BitVec 32
  state : ChannelState
  deriving DecidableEq, Repr

/-- What the newest sample arrival handed on: the channels' samples (01 R11) and the tracker values (04
R59); and, the MODEL's own (log entry 2), what is still owed to it and to the end of a request's service. -/
structure Arrival where
  samples : PerChannel (Option ChannelSample)
  tracker : TrackerValues
  ageTick : Bool
  fitBegin : Bool
  fitComplete : Bool
  resetInstall : PerChannel Bool
  check : Bool
  report : Bool
  rerefExpiry : Bool
  baud : Option Nat
  restart : Bool
  deriving DecidableEq, Repr

/-- Nothing handed on and nothing owed; the tracker values are those of T's counter at power-on reset (02
R37). No capture is formed with them, since the window is empty whenever this is put in place. -/
def Arrival.idle : Arrival :=
  ⟨.all none, ⟨0, 0, .off⟩, false, false, false, .all false, false, false, false, none, false⟩

/-- The whole part. -/
structure State where
  /-- Index of the newest sample handled; none before sample 0 (01 R2). -/
  newest : Option Nat
  channels : PerChannel ChannelUnit
  fit : FitUnit
  air : AirUnit
  axis : AxisUnit
  line : LineInput
  table : List LineRecord
  pass : PassUnit
  reref : RerefUnit
  link : LinkUnit
  drive : DriveUnit
  status : StatusUnit
  /-- Strap setting as last read (09 R166). -/
  straps : Nat
  /-- Level of the RESTART line (09 R165). -/
  restartLine : Bool
  /-- MODEL's own: what is still owed (log entry 2). -/
  arrival : Arrival
  /-- MODEL's own: picks fresh free values (log entry 7). -/
  freeCount : Nat
  /-- MODEL's own: the waiting commands, first in, first out (log entry 1). -/
  pending : List Instr
  deriving DecidableEq, Repr

/-- Reasons the part stops with a fault. The spec names none: every refused request is answered with
a status (09 R160) and every link fault is counted (09 R161), so the type has no constructor (log
entry 29). Safe: nothing is cut short. -/
inductive Fault where
  deriving DecidableEq, Repr

/-- Reasons a command is refused without a meaning. -/
inductive Refusal where
  /-- Raised by an arm of exec whose command has no meaning yet; safe, because nothing is claimed of
  it. No arm raises it. -/
  | notModelled (mnemonic : String)
  deriving DecidableEq, Repr

/-! ### Power-on reset -/

/-- 01 R14. -/
def FrontEnd.initial : FrontEnd :=
  ⟨.nominal, .detector, .normal, 0, 0, 0, 0, 0, false⟩

/-- 02 R37. -/
def Counter.initial : Counter :=
  { state := .off, p := 0, lastPhase := 0, lastStep := 0, acquireRun := 0, coastRun := 0
    epoch := 0, r0 := 0, floor := 400, coastLimit := 50, trimInterval := 0, trimTravel := 0 }

/-- 03 R56. -/
def FitUnit.initial : FitUnit :=
  { working := none, queue := [], pendingReset := .all false, timeoutMs := 5000, timer := none
    acc := .empty, result := .all none }

/-- 04 R73. -/
def AirUnit.initial : AirUnit :=
  { rHost := 0, ageMs := 60001, ageSamples := 0, ageLimit := 60, driftLimit := 200
    snapshot := none, tPath := 0, wVac := 2592079872, dXL := 0, dXR := 0, dY := 0
    stale := true, drift := false }

/-- 05 R75, R80. -/
def AxisUnit.initial : AxisUnit := ⟨32768, 100000, []⟩

/-- 05 R91. -/
def LineInput.initial : LineInput := ⟨false, .rising, 0, 2000, none, none⟩

/-- 07 R137. -/
def PassUnit.initial : PassUnit :=
  { context := none, mode := .auto, startThr := 800, stopThr := 160, settle := 625
    prevX := none, number := 0, idleStrays := 0, last := none }

/-- 09 R166, the station address aside: it comes from the straps. -/
def LinkUnit.initial : LinkUnit :=
  { station := none, group := 0, divisor := 417, rx := .hunting, inService := none
    buffer := none, counters := .zero }

/-- 10 R172. -/
def DriveUnit.initial : DriveUnit :=
  { enable := false, period := 1000, timer := 0, seq := 0, lastXYaw := none, lastY := none
    sending := none }

/-- 10 R176. -/
def StatusUnit.initial : StatusUnit := ⟨Event.restarted.single, 0⟩

/-- The part right after power-on reset, with the strap pins at 0 (DESIGN CHOICE, unsafe, log entry 9)
and the RESTART line inactive (DESIGN CHOICE, unsafe, log entry 10). -/
def State.reset : State :=
  { newest := none
    channels := .all ⟨.initial, .initial⟩
    fit := .initial
    air := .initial
    axis := .initial
    line := .initial
    table := []
    pass := .initial
    reref := ⟨none, none⟩
    link := .initial
    drive := .initial
    status := .initial
    straps := 0
    restartLine := false
    arrival := .idle
    freeCount := 0
    pending := [] }

end Sys2Proof.Machine
end

