-- ==== Sys2Proof/Machine/Operands.lean ====
section
/-! DEFINITION. Arithmetic the rules share: rounding, clamping, saturating counters, wrapping of phase
differences, exact square roots and the exact angle; the codes of enumerated fields; fields of sent
values. -/

namespace Sys2Proof.Machine

/-! ### Exact arithmetic -/

/-- 00 R1: `n / d` rounded to the nearest integer, halves away from zero, for a positive `d`. -/
def roundDiv (n d : Int) : Int :=
  if 0 ≤ n then (2 * n + d) / (2 * d) else -((2 * (-n) + d) / (2 * d))

/-- 00 "Clamped": the value set to the nearer end of its range. -/
def clamp (lo hi x : Int) : Int := max lo (min hi x)

/-- `clamp` of a natural number. -/
def clampNat (lo hi n : Nat) : Nat := max lo (min hi n)

/-- 00 "Saturating": one more, up to the top value. -/
def satInc (top n : Nat) : Nat := if n < top then n + 1 else n

/-- 02 R18 step 2: a phase difference wrapped into −512..511. -/
def wrapPhase (d : Int) : Int := (d + 512) % 1024 - 512

/-- A phase taken mod 1024 into 0..1023. -/
def modPhase (i : Int) : Nat := (i % 1024).toNat

/-- The bits of a square root, from bit `b` down, added to the root found so far. -/
def sqrtBits (n : Nat) : Nat → Nat → Nat
  | 0, r => r
  | b + 1, r =>
    let r' := r + 2 ^ b
    if r' * r' ≤ n then sqrtBits n b r' else sqrtBits n b r

/-- 01 R8: the largest integer whose square does not exceed `n`. -/
def isqrt (n : Nat) : Nat := sqrtBits n (n.log2 / 2 + 1) 0

/-- 03 R47 step 6: `n / √d` rounded, halves away from zero, for a positive `d`. The odd number
`2m − 1` of the rounded value `m` is at most `2n / √d`. -/
def roundDivSqrt (n d : Int) : Int :=
  let m : Int := ((isqrt (4 * n * n / d).toNat + 1) / 2 : Nat)
  if 0 ≤ n then m else -m

/-- The first `n` binary digits of the angle of (x, y), in turns counted from the positive x axis
toward the positive y axis. Squaring x + iy doubles the angle, so the next digit is whether the point
lies in the lower half plane (log entry 24, DEDUCED: an exact form of 01 R9's angle). -/
def turnDigits : Nat → Int → Int → Nat
  | 0, _, _ => 0
  | n + 1, x, y =>
    (if y < 0 ∨ (y = 0 ∧ x < 0) then 2 ^ n else 0) + turnDigits n (x * x - y * y) (2 * x * y)

/-! ### Codes of enumerated fields (11 section 11.2) -/

/-- Channel codes. -/
def channelOfCode : Nat → Option Channel
  | 0 => some .xl
  | 1 => some .xr
  | 2 => some .y
  | 3 => some .t
  | _ => none

/-- The four channels in code order. -/
def allChannels : List Channel := [.xl, .xr, .y, .t]

/-- OFF or NO, ON or YES. -/
def boolOfCode : Nat → Option Bool
  | 0 => some false
  | 1 => some true
  | _ => none

/-- DETECTOR, SYNTHETIC. -/
def sourceOfCode : Nat → Option Source
  | 0 => some .detector
  | 1 => some .synthetic
  | _ => none

/-- NORMAL, INVERTED. -/
def senseOfCode : Nat → Option Sense
  | 0 => some .normal
  | 1 => some .inverted
  | _ => none

/-- RISING, FALLING. -/
def edgeOfCode : Nat → Option Edge
  | 0 => some .rising
  | 1 => some .falling
  | _ => none

/-- AUTO, HOST. -/
def modeOfCode : Nat → Option PassMode
  | 0 => some .auto
  | 1 => some .host
  | _ => none

/-- FWD and REV of the Direction field; NONE is no pass direction (07 R126). -/
def directionOfCode : Nat → Option Direction
  | 1 => some .fwd
  | 2 => some .rev
  | _ => none

/-- The code of a Bool field. -/
def boolCode (b : Bool) : Nat := if b then 1 else 0

def ChannelState.code : ChannelState → Nat
  | .off => 0
  | .dark => 1
  | .unreferenced => 2
  | .tracking => 3
  | .coasting => 4

def RecordState.code : RecordState → Nat
  | .dormant => 0
  | .primed => 1
  | .armed => 2
  | .taken => 3
  | .missed => 4
  | .retired => 5

def Motion.code : Motion → Nat
  | .none => 0
  | .fwd => 1
  | .rev => 2

def Direction.code : Direction → Nat
  | .fwd => 1
  | .rev => 2

def Source.code : Source → Nat
  | .detector => 0
  | .synthetic => 1

def Sense.code : Sense → Nat
  | .normal => 0
  | .inverted => 1

def edgeCode : Edge → Nat
  | .rising => 0
  | .falling => 1

def PassMode.code : PassMode → Nat
  | .auto => 0
  | .host => 1

def FitKind.code : FitKind → Nat
  | .long => 0
  | .short => 1
  | .reset => 2

def FitOrigin.code : FitOrigin → Nat
  | .host => 0
  | .trim => 1

def FitOutcome.code : FitOutcome → Nat
  | .applied => 0
  | .appliedClamped => 1
  | .rejectedWeak => 2
  | .rejectedJump => 3
  | .abandonedSignal => 4
  | .abandonedTimeout => 5
  | .abandonedReset => 6
  | .abandonedRestart => 7
  | .abandonedDisabled => 8

def PassOutcome.code : PassOutcome → Nat
  | .complete => 0
  | .aborted => 1

def PassReason.code : PassReason → Nat
  | .standstill => 0
  | .reversal => 1
  | .closeRequest => 2
  | .referenceLost => 3
  | .disabled => 4
  | .abortRequest => 5
  | .restart => 6

def RerefOutcome.code : RerefOutcome → Nat
  | .done => 0
  | .failedTimeout => 1
  | .failedSignal => 2
  | .failedNoMotion => 3
  | .failedCancelled => 4
  | .failedRestart => 5

/-- Status values (11 section 11.1). -/
def Status.code : Status → Nat
  | .ok => 0x00
  | .adjusted => 0x01
  | .accepted => 0x02
  | .unknown => 0x10
  | .length => 0x11
  | .range => 0x12
  | .notFound => 0x13
  | .exists_ => 0x14
  | .order => 0x15
  | .overlap => 0x16
  | .tableFull => 0x17
  | .state => 0x18
  | .inPass => 0x19
  | .busy => 0x1A

/-- 09 R159: the statuses whose replies carry data; a request so answered has been taken (R160). -/
def Status.taken : Status → Bool
  | .ok | .adjusted | .accepted => true
  | .unknown | .length | .range | .notFound | .exists_ | .order | .overlap | .tableFull | .state
  | .inPass | .busy => false

/-- OK, or ADJUSTED when a value was clamped (09 R160). -/
def okOrAdjusted (adjusted : Bool) : Status := if adjusted then .adjusted else .ok

/-- The kind a result record names for a fit that collects samples. -/
def EstimateKind.fitKind : EstimateKind → FitKind
  | .long => .long
  | .short => .short

/-! ### Fields of sent values (11 R177: they saturate) -/

/-- An unsigned field of `w` bytes of a value the part sends. -/
def sentU (w n : Nat) : Bytes := beBytes w (min n (256 ^ w - 1))

/-- A signed field of `w` bytes of a value the part sends. -/
def sentS (w : Nat) (i : Int) : Bytes :=
  sBytes w (clamp (-((256 ^ w / 2 : Nat) : Int)) (((256 ^ w / 2 : Nat) : Int) - 1) i)

/-- One byte. -/
def sentB (n : Nat) : Bytes := sentU 1 n

/-- A flag byte. -/
def sentFlag (b : Bool) : Bytes := sentB (boolCode b)

/-- An optional value: a presence byte and the field, as zeros when absent. -/
def sentOpt {α : Type} (w : Nat) (field : α → Bytes) : Option α → Bytes
  | some v => sentB 1 ++ field v
  | none => sentB 0 ++ List.replicate w 0

end Sys2Proof.Machine
end

