-- ==== Sys2Proof/Machine/Flags.lean ====
section
/-! DEFINITION. Marks and flags: capture marks, conversion marks, the sticky event set, ATTN and HOLD. -/

namespace Sys2Proof.Machine

/-- 05 R87: a capture is flagged when it carries any mark but NO_Y. -/
def Marks.flagged (m : Marks) : Bool := m.coasted || m.stale || m.drift || m.noTracker

/-- The capture marks byte (11 section 11.2). -/
def Marks.code (m : Marks) : Nat :=
  boolCode m.coasted + 2 * boolCode m.stale + 4 * boolCode m.drift + 8 * boolCode m.noTracker
    + 16 * boolCode m.noY

/-- The record marks byte: COMPLETE at bit 0, FULL at bit 1 (11 section 11.2). -/
def LineRecord.marksCode (r : LineRecord) : Nat := boolCode r.complete + 2 * boolCode r.full

/-- An event is in a set. -/
def Event.mem (e : Event) (s : EventSet) : Bool := s.getLsbD e.index

/-- 10 R173: a set with an event added; an event already there stays. -/
def EventSet.add (s : EventSet) (e : Event) : EventSet := s ||| e.single

/-- 10 R174, 11 R178: the mask an event field selects; bits 12 to 15 are ignored. -/
def eventSetOfField (n : Nat) : EventSet := BitVec.ofNat 12 n

/-- 10 R173: ATTN is asserted while an event of the set is also in the mask. -/
def StatusUnit.attn (u : StatusUnit) : Bool := u.sticky &&& u.mask != 0

/-- The ATTN line (10 R173). -/
def State.attn (s : State) : Bool := s.status.attn

/-- 09 R157: HOLD is asserted while the receive buffer is full. -/
def State.hold (s : State) : Bool := s.link.buffer.isSome

/-- The LOST event of a channel (02 R27). -/
def lostEvent : Channel → Event
  | .xl => .lostXL
  | .xr => .lostXR
  | .y => .lostY
  | .t => .lostT

end Sys2Proof.Machine
end

