-- ==== Sys2Proof/Machine/Ops.lean ====
section
/-! DEFINITION. Named reads and updates of the state that every block uses. -/

namespace Sys2Proof.Machine

/-! ### Updates, one per field -/

/-- The state with `newest` replaced. -/
def State.withNewest (s : State) (v : Option Nat) : State := { s with newest := v }

/-- The state with `channels` replaced. -/
def State.withChannels (s : State) (v : PerChannel ChannelUnit) : State := { s with channels := v }

/-- The state with `fit` replaced. -/
def State.withFit (s : State) (v : FitUnit) : State := { s with fit := v }

/-- The state with `air` replaced. -/
def State.withAir (s : State) (v : AirUnit) : State := { s with air := v }

/-- The state with `axis` replaced. -/
def State.withAxis (s : State) (v : AxisUnit) : State := { s with axis := v }

/-- The state with `line` replaced. -/
def State.withLine (s : State) (v : LineInput) : State := { s with line := v }

/-- The state with `table` replaced. -/
def State.withTable (s : State) (v : List LineRecord) : State := { s with table := v }

/-- The state with `pass` replaced. -/
def State.withPass (s : State) (v : PassUnit) : State := { s with pass := v }

/-- The state with `reref` replaced. -/
def State.withReref (s : State) (v : RerefUnit) : State := { s with reref := v }

/-- The state with `link` replaced. -/
def State.withLink (s : State) (v : LinkUnit) : State := { s with link := v }

/-- The state with `drive` replaced. -/
def State.withDrive (s : State) (v : DriveUnit) : State := { s with drive := v }

/-- The state with `status` replaced. -/
def State.withStatus (s : State) (v : StatusUnit) : State := { s with status := v }

/-- The state with `arrival` replaced. -/
def State.withArrival (s : State) (v : Arrival) : State := { s with arrival := v }

/-- The state with `freeCount` replaced. -/
def State.withFreeCount (s : State) (v : Nat) : State := { s with freeCount := v }

/-- The state with `straps` replaced. -/
def State.withStraps (s : State) (v : Nat) : State := { s with straps := v }

/-- The state with `restartLine` replaced. -/
def State.withRestartLine (s : State) (v : Bool) : State := { s with restartLine := v }

/-- The state with `pending` replaced. -/
def State.withPending (s : State) (v : List Instr) : State := { s with pending := v }

/-! ### Channels -/

/-- One channel's front end and counter. -/
def State.chan (s : State) (ch : Channel) : ChannelUnit := s.channels.get ch

/-- The state with one channel replaced. -/
def State.setChan (s : State) (ch : Channel) (u : ChannelUnit) : State :=
  s.withChannels (s.channels.set ch u)

/-- The state with one channel's counter replaced. -/
def State.setCounter (s : State) (ch : Channel) (c : Counter) : State :=
  s.setChan ch { s.chan ch with counter := c }

/-- The state with one channel's ellipse parameters replaced: what an installation does to the front
end (01 R6). -/
def State.setParams (s : State) (ch : Channel) (e : EllipseSet) : State :=
  let u := s.chan ch
  s.setChan ch { u with front := { u.front with params := e } }

/-- 00 "Directions and validity": referenced while TRACKING or COASTING. -/
def ChannelState.referenced : ChannelState → Bool
  | .tracking | .coasting => true
  | .off | .dark | .unreferenced => false

/-- One channel is referenced. -/
def State.referenced (s : State) (ch : Channel) : Bool := (s.chan ch).counter.state.referenced

/-- 00, 05 R77: X is valid while both XL and XR are referenced. -/
def State.xReferenced (s : State) : Bool := s.referenced .xl && s.referenced .xr

/-! ### Samples, events, passes -/

/-- The index of the newest sample as reports and records give it; before sample 0 a free value (log
entry 7). -/
def State.newestIndex (s : State) : Nat :=
  s.newest.getD (Config.indexBeforeFirstSample s.freeCount)

/-- 01 R2: the index after `k` in the 64-bit count (log entry 22). -/
def nextIndex (k : Nat) : Nat := (k + 1) % 2 ^ 64

/-- The index the next arrival gets (01 R2). -/
def State.arrivingIndex (s : State) : Nat :=
  match s.newest with
  | none => 0
  | some k => nextIndex k

/-- 10 R173: a block raises a sticky event. -/
def State.raise (s : State) (e : Event) : State :=
  s.withStatus { s.status with sticky := s.status.sticky.add e }

/-- `raise`, where a condition holds. -/
def State.raiseIf (s : State) (b : Bool) (e : Event) : State := if b then s.raise e else s

/-- A pass is open (07 section 7.1). -/
def State.passOpen (s : State) : Bool := s.pass.context.isSome

/-- Reference control is WAITING (08 section 8.1). -/
def State.waiting (s : State) : Bool := s.reref.wait.isSome

/-! ### Serving a request -/

/-- What an owner returns when it has served a request (09 R158 step 3): the part after it, the status,
the data of the reply, and what the end of the reply brings. -/
structure Served where
  state : State
  status : Status
  data : Bytes := []
  after : AfterReply := .nothing

/-- A refusal: nothing changes (09 R160). -/
def State.refuse (s : State) (st : Status) : Served := { state := s, status := st }

end Sys2Proof.Machine
end

