-- ==== Sys2Proof/Machine/Air.lean ====
section
/-! DEFINITION. The compensation unit (04): tracker term, conversions, lengths, age and drift. -/

namespace Sys2Proof.Machine

/-- 04 R60: T's state lets its count be used. -/
def trackerCounting : ChannelState → Bool
  | .unreferenced | .tracking | .coasting => true
  | .off | .dark => false

/-- 04 R60: the tracker term, ΔT and ΔR, when it is usable. -/
def State.trackerTerm (s : State) : Option (Int × Int) :=
  let t := (s.chan .t).counter
  match s.air.snapshot with
  | none => none
  | some snap =>
    if t.epoch = snap.epoch ∧ trackerCounting t.state = true ∧ s.air.tPath ≠ 0 then
      let dT := t.p - snap.tSnap
      some (dT, roundDiv (dT * 1000000000) s.air.tPath)
    else none

/-- 04 R60: ΔR, 0 when the term is not usable. -/
def State.deltaR (s : State) : Int :=
  match s.trackerTerm with
  | some (_, dR) => dR
  | none => 0

/-- 04 R62: the effective refractivity. -/
def State.rEff (s : State) : Int := clamp 0 1000000 (s.air.rHost + s.deltaR)

/-- 04 R63: the effective length of one pu. -/
def effectiveScale (wVac : Nat) (rEff : Int) : Int :=
  roundDiv ((wVac : Int) * 1000000000) (1000000000 + rEff)

/-- 04 R63 for the record in force. -/
def State.wEff (s : State) : Int := effectiveScale s.air.wVac s.rEff

/-- 04 R64: the path term of a count. -/
def pathTerm (p wEff : Int) : Int := roundDiv (p * wEff) Config.wScale

/-- 04 R64: the dead-path term. -/
def deadPathTerm (d : Nat) (r0 rEff : Int) : Int := roundDiv ((d : Int) * (r0 - rEff)) 1000

/-- 04 R64: the length of a count. -/
def lengthOf (p wEff : Int) (d : Nat) (r0 rEff : Int) : Int :=
  pathTerm p wEff + deadPathTerm d r0 rEff

/-- 04 section 4.1: the dead path of a length channel; T has none. -/
def AirUnit.deadPath (a : AirUnit) : Channel → Nat
  | .xl => a.dXL
  | .xr => a.dXR
  | .y => a.dY
  | .t => 0

/-- 04 R64: the length a conversion gives a count of a channel now. -/
def State.lengthNow (s : State) (ch : Channel) (p : Int) : Int :=
  lengthOf p s.wEff (s.air.deadPath ch) (s.chan ch).counter.r0 s.rEff

/-- 04 R66: the age at which it saturates. -/
def AirUnit.ageTop (a : AirUnit) : Nat := a.ageLimit * 1000 + 1

/-- 04 R66: a conversion carries STALE. -/
def AirUnit.isStale (a : AirUnit) : Bool := decide (a.ageLimit * 1000 < a.ageMs)

/-- 04 R67: the tracker term lies beyond the drift limit. -/
def State.driftNow (s : State) : Bool :=
  match s.trackerTerm with
  | some (_, dR) => decide (s.air.driftLimit < dR.natAbs)
  | none => false

/-- 04 R58: the marks of a conversion made now. -/
def State.conversionMarks (s : State) : Marks :=
  { coasted := false, stale := s.air.isStale, drift := s.driftNow
    noTracker := s.trackerTerm.isNone, noY := false }

/-- 04 R61: at an arrival the snapshot is dropped when the T epoch has left it. -/
def State.dropSnapshot (s : State) : State :=
  match s.air.snapshot with
  | none => s
  | some snap =>
    if (s.chan .t).counter.epoch = snap.epoch then s
    else s.withAir { s.air with snapshot := none }

/-- 04 R67: at an arrival the drift condition follows the term; COMP_DRIFT from clear to set. -/
def State.updateDrift (s : State) : State :=
  let now := s.driftNow
  (s.withAir { s.air with drift := now }).raiseIf (now && !s.air.drift) .compDrift

/-- 04 R66: an arrival counts toward the next millisecond of an age that has not saturated; completing
it makes AGE_TICK due. -/
def State.countAge (s : State) : State :=
  if s.air.ageTop ≤ s.air.ageMs then s
  else if Config.samplesPerMs ≤ s.air.ageSamples + 1 then
    (s.withAir { s.air with ageSamples := 0 }).withArrival { s.arrival with ageTick := true }
  else s.withAir { s.air with ageSamples := s.air.ageSamples + 1 }

/-- 04 R66: the age grows by 1 ms; reaching its top sets the stale condition and raises COMP_STALE. -/
def State.ageStep (s : State) : State :=
  if s.air.ageTop ≤ s.air.ageMs then s
  else
    let age := s.air.ageMs + 1
    if age = s.air.ageTop then
      (s.withAir { s.air with ageMs := age, stale := true }).raise .compStale
    else s.withAir { s.air with ageMs := age }

/-- 04 R74: the compensation unit after a restart. -/
def AirUnit.restart (a : AirUnit) : AirUnit :=
  { a with
    snapshot := none, ageMs := a.ageTop, ageSamples := 0, drift := false, stale := true }

end Sys2Proof.Machine
end

