-- ==== Sys2Proof/Machine/FringeCounter.lean ====
section
/-! DEFINITION. Fringe counters (02): the unwrapper, the channel state machine, trim travel, and what
requests, re-bases, swaps and restarts do to a counter. -/

namespace Sys2Proof.Machine

/-- 02 R17: a count clamped to its limits. -/
def clampCount (p : Int) : Int := clamp (-Config.countMax) Config.countMax p

/-- 02 R17: a count within its limits. -/
def countInRange (p : Int) : Bool := decide (-Config.countMax ≤ p) && decide (p ≤ Config.countMax)

/-- How R18 ends: the sample passes with a new count and step, or is a slip that leaves this count. -/
inductive Unwrapped where
  | passes (p step : Int)
  | slip (p : Int)
  deriving DecidableEq, Repr

/-- 02 R18 step 1. -/
def Counter.predicted (c : Counter) : Nat := modPhase ((c.lastPhase : Int) + c.lastStep)

/-- 02 R18 step 2. -/
def Counter.residual (c : Counter) (φ : Nat) : Int := wrapPhase ((φ : Int) - (c.predicted : Int))

/-- 02 R18. -/
def Counter.unwrap (c : Counter) (φ : Nat) : Unwrapped :=
  let r := c.residual φ
  if 384 < r.natAbs then .slip c.p
  else
    let step := c.lastStep + r
    if 2047 < step.natAbs then .slip c.p
    else if countInRange (c.p + step) then .passes (c.p + step) step
    else .slip (clampCount (c.p + step))

/-- What a counter makes of one sample: the counter after it, the step it accepted if any, whether it
raises its LOST event, and whether it sends a trim request. -/
structure Handled where
  counter : Counter
  step : Option Int
  lost : Bool
  trim : Bool
  deriving DecidableEq, Repr

/-- A counter that neither accepts a step nor reports anything. -/
def Counter.quiet (c : Counter) : Handled := ⟨c, none, false, false⟩

/-- 02 R29: the trim travel after an accepted step, and whether it reaches the interval. -/
def Counter.travelled (c : Counter) (step : Int) : Nat × Bool :=
  if c.trimInterval = 0 then (0, false)
  else if c.trimInterval * Config.trimUnit ≤ c.trimTravel + step.natAbs then (0, true)
  else (c.trimTravel + step.natAbs, false)

/-- 02 R18 step 6, R29: an accepted sample leaves the channel in the given state. -/
def Counter.accept (c : Counter) (st : ChannelState) (φ : Nat) (p step : Int) : Handled :=
  { counter :=
      { c with
        state := st, p := p, lastStep := step, lastPhase := φ
        trimTravel := (c.travelled step).1 }
    step := some step
    lost := false
    trim := (c.travelled step).2 }

/-- 02 R19, R20, R25: a slip leaves the channel UNREFERENCED with a new epoch. -/
def Counter.slipped (c : Counter) (φ : Nat) (p : Int) (lost : Bool) : Handled :=
  { counter :=
      { c with
        state := .unreferenced, p := p, lastStep := 0, lastPhase := φ, epoch := c.epoch + 1 }
    step := none
    lost := lost
    trim := false }

/-- 02 R22, R24: the move to DARK. -/
def Counter.toDark (c : Counter) (lost : Bool) : Handled :=
  { counter :=
      { c with state := .dark, lastStep := 0, acquireRun := 0, epoch := c.epoch + 1 }
    step := none
    lost := lost
    trim := false }

/-- 02 R24, R25: the coast run set to 0 as a spell of COASTING ends. -/
def Counter.stopCoasting (c : Counter) : Counter := { c with coastRun := 0 }

/-- 02 R23, R24: extrapolation by the last step, or the overrange case of R24. -/
def Counter.coast (c : Counter) (run : Nat) : Handled :=
  let p := c.p + c.lastStep
  if countInRange p then
    { c with state := .coasting, p := p, lastPhase := c.predicted, coastRun := run }.quiet
  else c.stopCoasting.slipped c.predicted (clampCount p) true

/-- 02 R18 to R25: a counter after a sample of phase φ and amplitude `amp`. -/
def Counter.arrive (c : Counter) (φ amp : Nat) : Handled :=
  match c.state with
  | .off => c.quiet
  | .dark =>
    if c.floor + 32 ≤ amp then
      if 64 ≤ c.acquireRun + 1 then
        { c with state := .unreferenced, lastPhase := φ, lastStep := 0, acquireRun := 0 }.quiet
      else { c with acquireRun := c.acquireRun + 1 }.quiet
    else { c with acquireRun := 0 }.quiet
  | .unreferenced =>
    if c.floor ≤ amp then
      match c.unwrap φ with
      | .passes p step => c.accept .unreferenced φ p step
      | .slip p => c.slipped φ p false
    else c.toDark false
  | .tracking =>
    if c.floor ≤ amp then
      match c.unwrap φ with
      | .passes p step => c.accept .tracking φ p step
      | .slip p => c.slipped φ p true
    else c.coast 1
  | .coasting =>
    if c.floor ≤ amp then
      match c.unwrap φ with
      | .passes p step => c.stopCoasting.accept .tracking φ p step
      | .slip p => c.stopCoasting.slipped φ p true
    else if c.coastRun < c.coastLimit then c.coast (c.coastRun + 1)
    else c.stopCoasting.toDark true

/-- 02 R28: the reference mark a counter's state gives. -/
def ChannelState.mark : ChannelState → RefMark
  | .tracking => .ref
  | .coasting => .coast
  | .off | .dark | .unreferenced => .unref

/-- 02 R31: enabling a channel that is OFF. -/
def Counter.enable (c : Counter) : Counter :=
  { c with
    state := .dark, p := 0, lastPhase := 0, lastStep := 0, acquireRun := 0, coastRun := 0
    trimTravel := 0, epoch := c.epoch + 1 }

/-- 02 R32: disabling an enabled channel. -/
def Counter.disable (c : Counter) : Counter :=
  { c with state := .off, acquireRun := 0, coastRun := 0 }

/-- 02 R30: the settings of a CHANNEL_SET that is taken. -/
def Counter.settings (c : Counter) (floor coastLimit trimInterval : Nat) : Counter :=
  { c with floor := floor, coastLimit := coastLimit, trimInterval := trimInterval, trimTravel := 0 }

/-- 02 R33: a PRESET that is taken. -/
def Counter.preset (c : Counter) (p rEff : Int) : Counter :=
  { c with p := p, r0 := rEff, epoch := c.epoch + 1, state := .tracking }

/-- 02 R34: a re-base. -/
def Counter.rebase (c : Counter) (dp rEff : Int) : Counter :=
  { c with
    p := clampCount (c.p + dp), r0 := rEff, epoch := c.epoch + 1, state := .tracking, coastRun := 0 }

/-- 02 R38: a restart; a channel that is OFF keeps all its values. -/
def Counter.restart (c : Counter) : Counter :=
  match c.state with
  | .off => c
  | .dark | .unreferenced | .tracking | .coasting =>
    { c with
      state := .dark, p := 0, lastPhase := 0, lastStep := 0, acquireRun := 0, coastRun := 0
      trimTravel := 0, epoch := c.epoch + 1 }

end Sys2Proof.Machine
end

