-- ==== Sys2Proof/Machine/Axis.lean ====
section
/-! DEFINITION. The axis combiner and the line input (05): positions, the look-back window, pulses and
captures. -/

namespace Sys2Proof.Machine

/-! ### Positions -/

/-- 05 R76: X of two lengths. -/
def formX (f : Nat) (lXL lXR : Int) : Int := lXL + roundDiv ((lXR - lXL) * f) 65536

/-- 05 R76: yaw of two lengths. -/
def formYaw (b : Nat) (lXL lXR : Int) : Int := roundDiv ((lXR - lXL) * 1000) b

/-- A position with its validity and marks (05 R76 to R78). -/
structure Position where
  x : Int
  yaw : Int
  y : Int
  xValid : Bool
  yValid : Bool
  marks : Marks
  deriving DecidableEq, Repr

/-- 05 R78: the position of the newest sample, with the counts and states as they stand. -/
def State.position (s : State) : Position :=
  let lXL := s.lengthNow .xl (s.chan .xl).counter.p
  let lXR := s.lengthNow .xr (s.chan .xr).counter.p
  { x := formX s.axis.f lXL lXR
    yaw := formYaw s.axis.b lXL lXR
    y := s.lengthNow .y (s.chan .y).counter.p
    xValid := s.xReferenced
    yValid := s.referenced .y
    marks := s.conversionMarks }

/-! ### Look-back window -/

/-- 05 R79: the entry of the newest sample. -/
def State.windowEntry (s : State) (k : Nat) : WindowEntry :=
  let xl := (s.chan .xl).counter
  let xr := (s.chan .xr).counter
  let y := (s.chan .y).counter
  { index := k, pXL := xl.p, pXR := xr.p, pY := y.p
    markXL := xl.state.mark, markXR := xr.state.mark, markY := y.state.mark }

/-- 05 R79: the entry joins, the oldest of 64 leaves. -/
def State.pushWindow (s : State) (k : Nat) : State :=
  s.withAxis { s.axis with
    window := (s.windowEntry k :: s.axis.window).take Config.windowEntries }

/-- The window's entry of a sample. -/
def AxisUnit.entry (a : AxisUnit) (k : Nat) : Option WindowEntry :=
  a.window.find? (fun e => e.index == k)

/-! ### Pulses -/

/-- 05 R83: a pulse at time `e` is crowded. -/
def LineInput.crowds (l : LineInput) (e : Nat) : Bool :=
  l.inFlight.isSome ||
    match l.lastEdge with
    | none => false
    | some last => decide (e < last + l.spacing)

/-- 05 R84: the bracket of the instant `e` − latency, none when the instant lies before sample 0. -/
def LineInput.bracket (l : LineInput) (e : Nat) : Option InFlight :=
  if e < l.latency then none
  else some ⟨(e - l.latency) / 100, (e - l.latency) % 100⟩

/-- 05 R84: sample k has already arrived. -/
def State.hasArrived (s : State) (k : Nat) : Bool :=
  match s.newest with
  | none => false
  | some n => decide (k ≤ n)

/-- 05 R84, third point: the capture cannot be formed, because k has arrived and its entry is not in
the window. -/
def State.bracketLost (s : State) (k : Nat) : Bool :=
  s.hasArrived k && (s.axis.entry k).isNone

/-- 05 R83, R84: an accepted pulse becomes the capture in flight, or is dropped at once. -/
def State.acceptPulse (s : State) (e : Nat) : State :=
  let flight :=
    match s.line.bracket e with
    | none => none
    | some b => if s.bracketLost b.k then none else some b
  s.withLine { s.line with lastEdge := some e, inFlight := flight }

/-! ### Captures -/

/-- A capture (05 section 5.4). -/
structure Capture where
  k : Nat
  tOff : Nat
  pXL : Int
  pXR : Int
  pY : Option Int
  lXL : Int
  lXR : Int
  rEff : Int
  wEff : Int
  x : Int
  yaw : Int
  y : Option Int
  ref : Bool
  direction : Motion
  marks : Marks
  deriving DecidableEq, Repr

/-- 05 R85: a count interpolated at the instant. -/
def interpolate (p0 p1 : Int) (tOff : Nat) : Int := p0 + roundDiv ((p1 - p0) * tOff) 100

/-- 05 R86: the direction of a sum of count changes. -/
def motionOf (sum : Int) : Motion := if 0 < sum then .fwd else if sum < 0 then .rev else .none

/-- 05 R87: a mark other than UNREF. -/
def RefMark.isReferenced : RefMark → Bool
  | .ref | .coast => true
  | .unref => false

/-- 05 R87: the mark COAST. -/
def RefMark.isCoast : RefMark → Bool
  | .coast => true
  | .ref | .unref => false

/-- 04 R59, 05 R88: the part as a capture's conversion reads it. T's P, epoch and state are those its counter
formed for the newest sample, whatever a PRESET or a CHANNEL_SET of T taken since has made of them. -/
def State.atSample (s : State) : State :=
  let t := (s.chan .t).counter
  let v := s.arrival.tracker
  s.setCounter .t { t with p := v.p, epoch := v.epoch, state := v.state }

/-- 05 R85 to R88: the capture of a bracket, converted with the record, R0 and geometry in force and the
tracker values of the newest sample. -/
def State.formCapture (s : State) (tOff : Nat) (e0 e1 : WindowEntry) : Capture :=
  let v := s.atSample
  let hasY := e0.markY.isReferenced && e1.markY.isReferenced
  let pXL := interpolate e0.pXL e1.pXL tOff
  let pXR := interpolate e0.pXR e1.pXR tOff
  let pY := interpolate e0.pY e1.pY tOff
  let lXL := v.lengthNow .xl pXL
  let lXR := v.lengthNow .xr pXR
  { k := e0.index, tOff := tOff, pXL := pXL, pXR := pXR
    pY := if hasY then some pY else none
    lXL := lXL, lXR := lXR, rEff := v.rEff, wEff := v.wEff
    x := formX s.axis.f lXL lXR
    yaw := formYaw s.axis.b lXL lXR
    y := if hasY then some (v.lengthNow .y pY) else none
    ref := e0.markXL.isReferenced && e1.markXL.isReferenced
      && e0.markXR.isReferenced && e1.markXR.isReferenced
    direction := motionOf ((e1.pXL - e0.pXL) + (e1.pXR - e0.pXR))
    marks :=
      { v.conversionMarks with
        coasted := e0.markXL.isCoast || e1.markXL.isCoast || e0.markXR.isCoast || e1.markXR.isCoast
        noY := !hasY } }

/-- 05 R84: the bracket's entries, when both are in the window. -/
def State.bracketEntries (s : State) (b : InFlight) : Option (WindowEntry × WindowEntry) :=
  match s.axis.entry b.k, s.axis.entry (nextIndex b.k) with
  | some e0, some e1 => some (e0, e1)
  | _, _ => none

/-- 05 R91: the line input after a restart. -/
def LineInput.restart (l : LineInput) : LineInput := { l with lastEdge := none, inFlight := none }

end Sys2Proof.Machine
end

