-- ==== Sys2Proof/Machine/Crc.lean ====
section
/-! DEFINITION. The CRC of link frames and drive frames (09 R155, 11 R179). -/

namespace Sys2Proof.Machine

/-- 09 R155: one bit of the division by x^16 + x^12 + x^5 + 1. -/
def crcBit (crc : BitVec 16) : BitVec 16 :=
  if crc.msb then (crc <<< 1) ^^^ 0x1021 else crc <<< 1

/-- `n` bits of the division. -/
def crcBits : Nat → BitVec 16 → BitVec 16
  | 0, crc => crc
  | n + 1, crc => crcBits n (crcBit crc)

/-- 09 R155: a byte entered most significant bit first. -/
def crcByte (crc : BitVec 16) (b : Byte) : BitVec 16 :=
  crcBits 8 (crc ^^^ (b.zeroExtend 16 <<< 8))

/-- 09 R155: the CRC of bytes, preset 0xFFFF, result not inverted. -/
def crcOf (bs : Bytes) : BitVec 16 := bs.foldl crcByte 0xFFFF

end Sys2Proof.Machine
end

