-- ==== Sys2Proof/Machine/DrivePort.lean ====
section
/-! DEFINITION. The drive port (10 sections 10.1 to 10.3, 11 section 11.5). -/

namespace Sys2Proof.Machine

/-- 10 R170: one part of a report: the value sent, its VALID and HELD flags, and the last valid value
after. -/
structure ReportPart (α : Type) where
  value : α
  valid : Bool
  held : Bool
  last : Option α
  deriving DecidableEq, Repr

/-- 10 R170: the table of a part at an expiry. -/
def reportPart {α : Type} (zero : α) (valid : Bool) (formed : α) (last : Option α) : ReportPart α :=
  if valid then ⟨formed, true, false, some formed⟩
  else
    match last with
    | some v => ⟨v, false, true, some v⟩
    | none => ⟨zero, false, false, none⟩

/-- 11 section 11.5: the marks byte, the conversion bits only. -/
def driveMarksCode (m : Marks) : Nat :=
  2 * boolCode m.stale + 4 * boolCode m.drift + 8 * boolCode m.noTracker

/-- 11 section 11.5: bytes 1 to 29 of a position frame. -/
def driveBody (seq : BitVec 16) (k : Nat) (xy : ReportPart (Int × Int)) (y : ReportPart Int)
    (m : Marks) : Bytes :=
  sentU 2 seq.toNat ++ sentU 8 k ++ sentS 6 xy.value.1 ++ sentS 4 xy.value.2 ++ sentS 6 y.value
    ++ sentB (boolCode xy.valid + 2 * boolCode xy.held + 4 * boolCode y.valid + 8 * boolCode y.held)
    ++ sentB (driveMarksCode m) ++ [0]

/-- 11 R179: the 32 bytes of a position frame. -/
def driveFrame (body : Bytes) : Bytes := 0xA7 :: body ++ beBytes 2 (crcOf body).toNat

/-- 11 R179: the bits of a byte in the order in which they leave on the data line, most significant
first. -/
def bitsMsbFirst (b : Byte) : List Bool := (List.range 8).map b.getMsbD

/-- The data line of the drive port: the bits of the frame that is leaving it, first sent first, none while
the port is idle (10 R171, 11 R179). When each bit is sent is timing (log entry 28). -/
def State.driveBits (s : State) : Option (List Bool) :=
  s.drive.sending.map (fun f => f.flatMap bitsMsbFirst)

/-- 10 R169, R170: a report expiry: the timer starts again, the frame is formed and its sending
begins. -/
def State.reportNow (s : State) : State :=
  let pos := s.position
  let xy := reportPart (0, 0) pos.xValid (pos.x, pos.yaw) s.drive.lastXYaw
  let y := reportPart 0 pos.yValid pos.y s.drive.lastY
  s.withDrive
    { s.drive with
      timer := 0
      seq := s.drive.seq + 1
      lastXYaw := xy.last
      lastY := y.last
      sending := some (driveFrame (driveBody s.drive.seq s.newestIndex xy y pos.marks)) }

/-- 10 R169: an arrival counts while the port is ON; reaching the period makes REPORT_EXPIRY due. -/
def State.countReport (s : State) : State :=
  if s.drive.enable then
    (s.withDrive { s.drive with timer := s.drive.timer + 1 }).withArrival
      { s.arrival with report := decide (s.drive.period ≤ s.drive.timer + 1) }
  else s

/-- DRIVE_SET (10 R168). -/
def State.serveDriveSet (s : State) (enable period : Nat) : Served :=
  match boolOfCode enable with
  | none => s.refuse .range
  | some on =>
    let n := clampNat 50 100000 period
    let d := s.drive
    let d :=
      if on && !d.enable then { d with timer := 0, seq := 0, lastXYaw := none, lastY := none } else d
    { state := s.withDrive { d with enable := on, period := n }
      status := okOrAdjusted (decide (n ≠ period))
      data := sentFlag on ++ sentU 4 n }

/-- 10 R172: the drive port after a restart. -/
def DriveUnit.restart (d : DriveUnit) : DriveUnit :=
  { d with timer := 0, seq := 0, lastXYaw := none, lastY := none }

end Sys2Proof.Machine
end

