-- ==== Sys2Proof/Machine/FrontEnd.lean ====
section
/-! DEFINITION. Sample front ends (01): source, correction, amplitude, phase, sense, clip counter. -/

namespace Sys2Proof.Machine

/-- rounded(1600 × cos(2π × a / 1024)) for a in 0..256, written out from 01 R4's formula (log entry
23). -/
def quarterCosine : List Nat :=
  [1600, 1600, 1600, 1600, 1600, 1599, 1599, 1599, 1598, 1598, 1597, 1596, 1596, 1595, 1594, 1593, 1592, 1591, 1590, 1589, 1588, 1587, 1585, 1584]
    ++ [1583, 1581, 1580, 1578, 1576, 1575, 1573, 1571, 1569, 1567, 1565, 1563, 1561, 1559, 1557, 1554, 1552, 1550, 1547, 1545, 1542, 1539, 1537, 1534]
    ++ [1531, 1528, 1525, 1522, 1519, 1516, 1513, 1510, 1506, 1503, 1500, 1496, 1493, 1489, 1486, 1482, 1478, 1474, 1471, 1467, 1463, 1459, 1455, 1451]
    ++ [1446, 1442, 1438, 1434, 1429, 1425, 1420, 1416, 1411, 1406, 1402, 1397, 1392, 1387, 1382, 1377, 1372, 1367, 1362, 1357, 1352, 1346, 1341, 1336]
    ++ [1330, 1325, 1319, 1314, 1308, 1302, 1297, 1291, 1285, 1279, 1273, 1267, 1261, 1255, 1249, 1243, 1237, 1231, 1224, 1218, 1212, 1205, 1199, 1192]
    ++ [1186, 1179, 1172, 1166, 1159, 1152, 1145, 1138, 1131, 1124, 1117, 1110, 1103, 1096, 1089, 1082, 1074, 1067, 1060, 1052, 1045, 1038, 1030, 1023]
    ++ [1015, 1007, 1000, 992, 984, 977, 969, 961, 953, 945, 937, 929, 921, 913, 905, 897, 889, 881, 873, 864, 856, 848, 839, 831]
    ++ [823, 814, 806, 797, 789, 780, 771, 763, 754, 746, 737, 728, 719, 711, 702, 693, 684, 675, 666, 657, 648, 639, 630, 621]
    ++ [612, 603, 594, 585, 576, 567, 557, 548, 539, 530, 520, 511, 502, 493, 483, 474, 464, 455, 446, 436, 427, 417, 408, 398]
    ++ [389, 379, 370, 360, 351, 341, 331, 322, 312, 303, 293, 283, 274, 264, 254, 244, 235, 225, 215, 206, 196, 186, 176, 167]
    ++ [157, 147, 137, 127, 118, 108, 98, 88, 79, 69, 59, 49, 39, 29, 20, 10, 0]

/-- 01 R4: rounded(1600 × cos(2π × a / 1024)) for a in 0..1023, from its quarter wave. -/
def synthCos (a : Nat) : Int :=
  if a ≤ 256 then (quarterCosine.getD a 0 : Int)
  else if a ≤ 512 then -(quarterCosine.getD (512 - a) 0 : Int)
  else if a ≤ 768 then -(quarterCosine.getD (a - 512) 0 : Int)
  else (quarterCosine.getD (1024 - a) 0 : Int)

/-- 01 R4: rounded(1600 × sin(2π × a / 1024)), the cosine a quarter turn back. -/
def synthSin (a : Nat) : Int := synthCos ((a + 768) % 1024)

/-- 01 R4: the working pair of a front end, from its source in force. -/
def FrontEnd.workingPair (fe : FrontEnd) (p : Pair) : Int × Int :=
  match fe.source with
  | .detector => (p.c.toInt, p.s.toInt)
  | .synthetic => (synthCos fe.synthAngle, synthSin fe.synthAngle)

/-- 01 R4: the angle after the pair has been formed; it moves in SYNTHETIC only. -/
def FrontEnd.nextAngle (fe : FrontEnd) : Nat :=
  match fe.source with
  | .detector => fe.synthAngle
  | .synthetic => modPhase ((fe.synthAngle : Int) + fe.synthStep)

/-- 01 R5: a pair is clipped when a code is −2048 or 2047. -/
def isClipped (c s : Int) : Bool := c == -2048 || c == 2047 || s == -2048 || s == 2047

/-- 01 R7: the corrected point. -/
def correct (e : EllipseSet) (c s : Int) : Int × Int :=
  let u := c - e.offsetC
  let v := s - e.offsetS
  (u, roundDiv (v * e.g - u * e.sigma) 32768)

/-- 01 R8: the amplitude of a corrected point, rounded down. -/
def amplitudeOf (x y : Int) : Nat := isqrt (x * x + y * y).toNat

/-- 01 R9: the phase of a corrected point. Eleven digits of the angle in turns give the rounding of ten;
no angle of an integer point lies on a boundary, so no half has to be rounded. -/
def phaseOf (x y : Int) : Nat :=
  if x = 0 ∧ y = 0 then 0 else (turnDigits 11 x y + 1) / 2 % 1024

/-- 01 R10: the phase after the sense. -/
def applySense : Sense → Nat → Nat
  | .normal, φ => φ
  | .inverted, φ => (1024 - φ) % 1024

/-- 01 R7, R9, R10: the phase of a pair under a parameter set and a sense. -/
def pairPhase (e : EllipseSet) (sense : Sense) (c s : Int) : Nat :=
  applySense sense (phaseOf (correct e c s).1 (correct e c s).2)

/-- 01 R7, R8: the amplitude of a pair under a parameter set. -/
def pairAmplitude (e : EllipseSet) (c s : Int) : Nat :=
  amplitudeOf (correct e c s).1 (correct e c s).2

/-- 01 R4, R5, R11: an enabled front end after a sample arrival. -/
def FrontEnd.arrive (fe : FrontEnd) (p : Pair) : FrontEnd :=
  let cs := fe.workingPair p
  let clip := isClipped cs.1 cs.2
  { fe with
    synthAngle := fe.nextAngle
    clipCount := if clip then satInc Config.top32 fe.clipCount else fe.clipCount
    phase := pairPhase fe.params fe.sense cs.1 cs.2
    amplitude := pairAmplitude fe.params cs.1 cs.2
    clipped := clip }

/-- 01 R15: a front end after a restart. -/
def FrontEnd.restart (fe : FrontEnd) : FrontEnd :=
  { fe with synthAngle := 0, clipCount := 0, phase := 0, amplitude := 0, clipped := false }

/-- 01 R13: a front end whose OFF channel is enabled. -/
def FrontEnd.enable (fe : FrontEnd) : FrontEnd := { fe with clipCount := 0, synthAngle := 0 }

/-- 01 R12: the front-end fields of a CHANNEL_SET that is taken. -/
def FrontEnd.settings (fe : FrontEnd) (source : Source) (sense : Sense) (step : Int) : FrontEnd :=
  { fe with
    source := source
    sense := sense
    synthStep := step
    synthAngle :=
      match fe.source, source with
      | .detector, .synthetic => 0
      | .detector, .detector => fe.synthAngle
      | .synthetic, .detector => fe.synthAngle
      | .synthetic, .synthetic => fe.synthAngle }

end Sys2Proof.Machine
end

