-- ==== Sys2Proof/Machine/FitUnit.lean ====
section
/-! DEFINITION. The fit unit (03): slot and queue, accumulator, long and short arithmetic, the swap,
RESET fits, abandonment and result records. -/

namespace Sys2Proof.Machine

/-! ### Slot and queue -/

/-- 03 R39: the channel has a request in the slot, in the queue or as a pending reset. -/
def FitUnit.holds (f : FitUnit) (ch : Channel) : Bool :=
  (match f.working with
    | some r => r.channel == ch
    | none => false)
    || f.queue.any (fun r => r.channel == ch) || f.pendingReset.get ch

/-- 03 R39: a request enters the empty slot, or joins the tail of the queue. -/
def FitUnit.submit (f : FitUnit) (r : FitRequest) : FitUnit :=
  match f.working with
  | none => { f with working := some r }
  | some _ => { f with queue := f.queue ++ [r] }

/-- 03 R42: the slot empties; the accumulator is empty and the timer not running. -/
def FitUnit.emptySlot (f : FitUnit) : FitUnit :=
  { f with working := none, timer := none, acc := .empty }

/-- 03 R42: the oldest waiting request enters an empty slot. -/
def FitUnit.fillSlot (f : FitUnit) : FitUnit :=
  match f.working, f.queue with
  | none, r :: rest => { f with working := some r, queue := rest }
  | none, [] => f
  | some _, _ => f

/-- 03 R41: a trim request from a channel's counter is queued, or dropped without a trace. -/
def State.trimRequest (s : State) (ch : Channel) : State :=
  if s.fit.holds ch then s else s.withFit (s.fit.submit ⟨ch, .short, .trim⟩)

/-! ### Result records -/

/-- The result record of a request with nothing computed (03 section 3.8). -/
def FitResult.plain (kind : FitKind) (origin : FitOrigin) (outcome : FitOutcome) (endSample : Nat)
    (acc : Accumulator) (old : EllipseSet) : FitResult :=
  { kind := kind, origin := origin, outcome := outcome, endSample := endSample
    observed := acc.observed, unclipped := acc.unclipped, travel := acc.travel
    extremes := acc.extremes, halfAxes := none, oldSet := old, newSet := none, jump := none
    weakOffsets := none }

/-- The set in force on a channel (01 R6). -/
def State.params (s : State) (ch : Channel) : EllipseSet := (s.chan ch).front.params

/-- The channel's result record replaced, nothing raised (03 R57). -/
def State.putFitResult (s : State) (ch : Channel) (r : FitResult) : State :=
  s.withFit { s.fit with result := s.fit.result.set ch (some r) }

/-- 03 R54: an outcome replaces the channel's result record and raises FIT_DONE. -/
def State.fitOutcome (s : State) (ch : Channel) (r : FitResult) : State :=
  (s.putFitResult ch r).raise .fitDone

/-- The record of the working request as it stands, with an outcome. -/
def State.workingRecord (s : State) (r : FitRequest) (outcome : FitOutcome) : FitResult :=
  .plain r.kind.fitKind r.origin outcome s.newestIndex s.fit.acc (s.params r.channel)

/-- 03 R45, R50, R52, R53: the working fit ends without a new set and the slot empties. -/
def State.endWorking (s : State) (r : FitRequest) (outcome : FitOutcome) : State :=
  let s' := s.fitOutcome r.channel (s.workingRecord r outcome)
  s'.withFit s'.fit.emptySlot

/-- 03 R50, R53: the channel's waiting requests leave the queue, recorded with the outcome. -/
def State.endWaiting (s : State) (ch : Channel) (outcome : FitOutcome) : State :=
  match s.fit.queue.find? (fun r => r.channel == ch) with
  | none => s
  | some r =>
    let s' := s.fitOutcome ch
      (.plain r.kind.fitKind r.origin outcome s.newestIndex .empty (s.params ch))
    s'.withFit { s'.fit with queue := s'.fit.queue.filter (fun q => !(q.channel == ch)) }

/-- The channel's working fit, if it has one, ends with the outcome. -/
def State.endWorkingOf (s : State) (ch : Channel) (outcome : FitOutcome) : State :=
  match s.fit.working with
  | none => s
  | some r => if r.channel = ch then s.endWorking r outcome else s

/-! ### A fit at work -/

/-- 03 R43: the extremes after an unclipped sample. -/
def Extremes.add (e : Extremes) (c s : Int) : Extremes :=
  { maxC := if e.maxC < c then c else e.maxC
    minC := if c < e.minC then c else e.minC
    maxS := if e.maxS < s then s else e.maxS
    minS := if s < e.minS then s else e.minS
    sAtMaxC := if e.maxC < c then s else e.sAtMaxC }

/-- 03 R43: the accumulator after a sample. -/
def Accumulator.add (a : Accumulator) (m : ChannelSample) : Accumulator :=
  { observed := a.observed + 1
    unclipped := if m.clipped then a.unclipped else a.unclipped + 1
    travel := a.travel + (m.step.getD 0).natAbs
    extremes :=
      if m.clipped then a.extremes
      else
        match a.extremes with
        | none => some ⟨m.c, m.c, m.s, m.s, m.s⟩
        | some e => some (e.add m.c m.s) }

/-- 03 R44: the fit travel a kind needs, in pu. -/
def EstimateKind.travel : EstimateKind → Nat
  | .long => 16384
  | .short => 4096

/-- 03 R43, R44, R52: the working fit observes its channel's sample of this arrival. The fit travel
reaching its amount stops the timer and makes FIT_COMPLETE due. -/
def State.fitObserve (s : State) : State :=
  match s.fit.working with
  | none => s
  | some r =>
    match s.arrival.samples.get r.channel with
    | none => s
    | some m =>
      match (s.chan r.channel).counter.state with
      | .coasting | .dark => s.endWorking r .abandonedSignal
      | .off | .unreferenced | .tracking =>
        let acc := s.fit.acc.add m
        if r.kind.travel ≤ acc.travel then
          (s.withFit { s.fit with acc := acc, timer := none }).withArrival
            { s.arrival with fitComplete := true }
        else s.withFit { s.fit with acc := acc }

/-- 03 R43, R46: the working fit begins at this arrival. -/
def State.fitStart (s : State) : State :=
  match s.fit.working with
  | none => s
  | some _ =>
    (s.withFit { s.fit with
        acc := .empty
        timer := some ⟨s.newestIndex, s.fit.timeoutMs⟩ }).fitObserve

/-! ### Arithmetic of a completed fit -/

/-- What the arithmetic of a completed fit gives: the half-axes doubled, the new set if there is one
and whether it was clamped, and the offsets a weak long fit keeps. -/
structure Computed where
  halfAxes : Option (Int × Int)
  newSet : Option EllipseSet
  clamped : Bool
  weakOffsets : Option (Int × Int)
  deriving DecidableEq, Repr

/-- 03 R47 step 1, R48 step 1: the floor of half a sum. -/
def midpoint (a b : Int) : Int := (a + b) / 2

/-- 03 R47 step 3, R48 step 4: a half-axis, given doubled, is below the amplitude floor. -/
def weakAxes (floor : Nat) (a2 b2 : Int) : Bool :=
  decide (a2 < 2 * (floor : Int)) || decide (b2 < 2 * (floor : Int))

/-- 03 R47. With `a2 = 2A`, `b2 = 2B` and `v = v_m`: sin α = 2v / b2, and
B √(1 − sin²α) = √(b2² − 4v²) / 2. -/
def longArithmetic (floor : Nat) (e : Extremes) : Computed :=
  let oc := midpoint e.maxC e.minC
  let os := midpoint e.maxS e.minS
  let a2 := e.maxC - e.minC
  let b2 := e.maxS - e.minS
  let v := e.sAtMaxC - os
  if weakAxes floor a2 b2 || decide (b2 ≤ 4 * (v.natAbs : Int)) then
    ⟨some (a2, b2), none, false, some (oc, os)⟩
  else
    let d := b2 * b2 - 4 * v * v
    let g := roundDivSqrt (32768 * a2) d
    let σ := roundDivSqrt (32768 * (2 * v)) d
    let g' := clamp 16384 65535 g
    let σ' := clamp (-8192) 8192 σ
    ⟨some (a2, b2), some ⟨oc, os, g', σ'⟩, decide (g ≠ g' ∨ σ ≠ σ'), none⟩

/-- 03 R48 step 2: the step of one offset toward its midpoint, truncated toward zero. -/
def offsetStep (mid offset : Int) : Int := clamp (-16) 16 (Int.tdiv (mid - offset) 8)

/-- 03 R48. -/
def shortArithmetic (floor : Nat) (inForce : EllipseSet) (e : Extremes) : Computed :=
  let a2 := e.maxC - e.minC
  let b2 := e.maxS - e.minS
  if weakAxes floor a2 b2 then ⟨some (a2, b2), none, false, none⟩
  else
    ⟨some (a2, b2),
      some { inForce with
        offsetC := inForce.offsetC + offsetStep (midpoint e.maxC e.minC) inForce.offsetC
        offsetS := inForce.offsetS + offsetStep (midpoint e.maxS e.minS) inForce.offsetS },
      false, none⟩

/-- 03 R44, R47, R48: the arithmetic of a completed fit of a kind. -/
def fitArithmetic (kind : EstimateKind) (floor : Nat) (inForce : EllipseSet)
    (ex : Option Extremes) : Computed :=
  match ex with
  | none => ⟨none, none, false, none⟩
  | some e =>
    match kind with
    | .long => longArithmetic floor e
    | .short => shortArithmetic floor inForce e

/-! ### Swap and completion -/

/-- 03 R49: the jump between the phases of a pair under two sets. -/
def swapJump (sense : Sense) (old new : EllipseSet) (c s : Int) : Int :=
  wrapPhase ((pairPhase new sense c s : Int) - (pairPhase old sense c s : Int))

/-- 03 R49, 02 R35: the front end takes the set, the counter the phase of the sample under it. -/
def State.swap (s : State) (ch : Channel) (new : EllipseSet) (c sv : Int) : State :=
  let u := s.chan ch
  s.setChan ch
    { front := { u.front with params := new }
      counter := { u.counter with lastPhase := pairPhase new u.front.sense c sv } }

/-- 03 R44, R47 to R49: the working fit completes on the sample of this arrival. -/
def State.fitFinish (s : State) : State :=
  match s.fit.working with
  | none => s
  | some r =>
    match s.arrival.samples.get r.channel with
    | none => s
    | some m =>
      let u := s.chan r.channel
      let k := fitArithmetic r.kind u.counter.floor u.front.params s.fit.acc.extremes
      let base := s.workingRecord r .rejectedWeak
      let close := fun (t : State) (record : FitResult) =>
        let t' := t.fitOutcome r.channel record
        t'.withFit t'.fit.emptySlot
      match k.newSet with
      | none => close s { base with halfAxes := k.halfAxes, weakOffsets := k.weakOffsets }
      | some new =>
        let d := swapJump u.front.sense u.front.params new m.c m.s
        let computed := { base with halfAxes := k.halfAxes, newSet := some new, jump := some d }
        if 64 < d.natAbs then close s { computed with outcome := .rejectedJump }
        else close (s.swap r.channel new m.c m.s)
          { computed with outcome := if k.clamped then .appliedClamped else .applied }

/-! ### RESET fits -/

/-- The result record of a RESET whose nominal set has been or would be installed (03 section 3.8; log
entry 21). -/
def State.resetRecord (s : State) (ch : Channel) (outcome : FitOutcome) (jump : Option Int) :
    FitResult :=
  { FitResult.plain .reset .host outcome s.newestIndex .empty (s.params ch) with
    newSet := some .nominal
    jump := jump }

/-- 03 R51: the nominal set installed without a phase. -/
def State.installNominal (s : State) (ch : Channel) : State :=
  let record := s.resetRecord ch .applied none
  (s.setParams ch .nominal).fitOutcome ch record

/-- The channel's pending reset cleared. -/
def State.clearPendingReset (s : State) (ch : Channel) : State :=
  s.withFit { s.fit with pendingReset := s.fit.pendingReset.set ch false }

/-- 03 R51: a pending reset installed at the end of the channel's arrival: as a swap without a jump
test, or without a phase where the arrival left the channel COASTING or DARK. -/
def State.installPending (s : State) (ch : Channel) : State :=
  let s := s.clearPendingReset ch
  let u := s.chan ch
  match s.arrival.samples.get ch, u.counter.state with
  | some m, .unreferenced | some m, .tracking =>
    let d := swapJump u.front.sense u.front.params .nominal m.c m.s
    let record := s.resetRecord ch .applied (some d)
    (s.swap ch .nominal m.c m.s).fitOutcome ch record
  | _, _ => s.installNominal ch

/-- 03 R50, R51: a RESET that is taken. -/
def State.takeReset (s : State) (ch : Channel) : State :=
  let s := (s.endWorkingOf ch .abandonedReset).endWaiting ch .abandonedReset
  match (s.chan ch).counter.state with
  | .unreferenced | .tracking =>
    s.withFit { s.fit with pendingReset := s.fit.pendingReset.set ch true }
  | .off | .dark | .coasting => s.installNominal ch

/-- 03 R53: what a CHANNEL_SET that disables a channel does to the channel's requests. -/
def State.fitDisable (s : State) (ch : Channel) : State :=
  let s := (s.endWorkingOf ch .abandonedDisabled).endWaiting ch .abandonedDisabled
  if s.fit.pendingReset.get ch then (s.clearPendingReset ch).installNominal ch else s

/-- 03 R57: a channel's pending reset at a restart. -/
def State.restartPendingReset (s : State) (ch : Channel) : State :=
  if s.fit.pendingReset.get ch then
    (s.putFitResult ch (s.resetRecord ch .abandonedRestart none)).clearPendingReset ch
  else s

/-- 03 R57: the fit unit at a restart; no FIT_DONE. -/
def State.fitRestart (s : State) : State :=
  let s :=
    match s.fit.working with
    | none => s
    | some r => s.putFitResult r.channel (s.workingRecord r .abandonedRestart)
  let s := allChannels.foldl State.restartPendingReset s
  s.withFit { s.fit.emptySlot with queue := [] }

/-- 03 R45, log entry 12: the sample index whose time is the expiry of the running fit timer. -/
def FitTimer.deadline (t : FitTimer) : Nat := t.firstSample + t.timeoutMs * Config.samplesPerMs

/-- 03 R45: the running fit timer has expired, or may expire before the next arrival when `lead` is 1
(log entry 12). -/
def State.fitTimerOut (s : State) (lead : Nat) : Bool :=
  match s.fit.timer, s.newest with
  | some t, some k => decide (t.deadline ≤ k + lead)
  | _, _ => false

/-- 03 R45: the working fit ends ABANDONED_TIMEOUT. -/
def State.fitTimeout (s : State) : State :=
  match s.fit.working with
  | none => s
  | some r => s.endWorking r .abandonedTimeout

end Sys2Proof.Machine
end

