-- ==== Sys2Proof/Machine/LineTable.lean ====
section
/-! DEFINITION. The line table (06): records, windows, what each request does to a record, statistics,
commit and discard, matching and crossing (07 section 7.6), and the table requests. -/

namespace Sys2Proof.Machine

/-! ### Windows and order -/

/-- 06 R92. -/
def LineRecord.lower (r : LineRecord) : Int := r.nominal - r.halfWidth

/-- 06 R92. -/
def LineRecord.upper (r : LineRecord) : Int := r.nominal + r.halfWidth

/-- 06 R92: a position belongs to the window, its edges included. -/
def LineRecord.inWindow (r : LineRecord) (x : Int) : Bool :=
  decide (r.lower ≤ x) && decide (x ≤ r.upper)

/-- The record of a line number. -/
def findLine (t : List LineRecord) (line : Int) : Option LineRecord :=
  t.find? (fun r => r.line == line)

/-- The record whose window holds a position (06 R110, 07 R130). -/
def findWindow (t : List LineRecord) (x : Int) : Option LineRecord :=
  t.find? (fun r => r.inWindow x)

/-- 06 R97: the record with the next lower line number. -/
def lowerNeighbour (t : List LineRecord) (line : Int) : Option LineRecord :=
  (t.filter (fun r => decide (r.line < line))).getLast?

/-- 06 R97: the record with the next higher line number. -/
def upperNeighbour (t : List LineRecord) (line : Int) : Option LineRecord :=
  t.find? (fun r => decide (line < r.line))

/-- A test against a neighbour, passed where there is none. -/
def passesBeside (test : LineRecord → Bool) : Option LineRecord → Bool
  | none => true
  | some r => test r

/-- 06 R97 step 4: the nominal lies strictly between those of the neighbours of the line. -/
def orderHolds (t : List LineRecord) (line nominal : Int) : Bool :=
  passesBeside (fun r => decide (r.nominal < nominal)) (lowerNeighbour t line)
    && passesBeside (fun r => decide (nominal < r.nominal)) (upperNeighbour t line)

/-- 06 R97 step 5: the window overlaps neither neighbour's, touching included. -/
def windowFree (t : List LineRecord) (line nominal : Int) (halfWidth : Nat) : Bool :=
  passesBeside (fun r => decide (r.upper < nominal - halfWidth)) (lowerNeighbour t line)
    && passesBeside (fun r => decide (nominal + halfWidth < r.lower)) (upperNeighbour t line)

/-- 06 R98: the record joins the table between its neighbours. -/
def insertRecord (r : LineRecord) : List LineRecord → List LineRecord
  | [] => [r]
  | a :: rest => if r.line < a.line then r :: a :: rest else a :: insertRecord r rest

/-- The table with the record of a line number replaced. -/
def replaceLine (t : List LineRecord) (line : Int) (r : LineRecord) : List LineRecord :=
  t.map (fun a => if a.line = line then r else a)

/-- The table without the record of a line number. -/
def removeLine (t : List LineRecord) (line : Int) : List LineRecord :=
  t.filter (fun a => !(a.line == line))

/-! ### Ranges (06 section 6.1) -/

def lineInRange (l : Int) : Bool := decide (-1000000 ≤ l) && decide (l ≤ 1000000)

def nominalInRange (x : Int) : Bool :=
  decide (-2000000000000 ≤ x) && decide (x ≤ 2000000000000)

def halfWidthInRange (h : Nat) : Bool := decide (100000 ≤ h) && decide (h ≤ 1000000000)

def classInRange (c : Nat) : Bool := decide (c ≤ 7)

def targetInRange (n : Nat) : Bool := decide (n ≤ 255)

/-- 06 R97 step 1: DORMANT and ARMED are the initial states PLACE takes. -/
def initialOfCode : Nat → Option Bool
  | 0 => some false
  | 2 => some true
  | _ => none

/-! ### Statistics -/

/-- The half of a direction. -/
def LineRecord.half (r : LineRecord) : Direction → Option Half
  | .fwd => r.fwd
  | .rev => r.rev

/-- The record with a half replaced. -/
def LineRecord.setHalf (r : LineRecord) (d : Direction) (h : Half) : LineRecord :=
  match d with
  | .fwd => { r with fwd := some h }
  | .rev => { r with rev := some h }

/-- The target of a direction is reached, or not required (06 R95). -/
def targetMet (target : Nat) (h : Option Half) : Bool :=
  target == 0 ||
    match h with
    | none => false
    | some h => decide (target ≤ h.n)

/-- 06 R95: the record is complete. -/
def LineRecord.isComplete (r : LineRecord) : Bool :=
  !(r.targetFwd == 0 && r.targetRev == 0) && targetMet r.targetFwd r.fwd
    && targetMet r.targetRev r.rev

/-- 06 R106: a half after a merge; an absent half is created first. -/
def mergeHalf (h : Option Half) (p : PendingPart) : Half :=
  let ny := match p.y with
    | none => 0
    | some _ => 1
  let fl := if p.marks.flagged then 1 else 0
  match h with
  | none =>
    { n := 1, sumX := p.x, minX := p.x, maxX := p.x, lastX := p.x, ny := ny, sumY := p.y.getD 0
      flagged := fl, lastPass := p.pass }
  | some h =>
    { n := h.n + 1, sumX := h.sumX + p.x
      minX := if p.x < h.minX then p.x else h.minX
      maxX := if h.maxX < p.x then p.x else h.maxX
      lastX := p.x, ny := h.ny + ny, sumY := h.sumY + p.y.getD 0
      flagged := h.flagged + fl, lastPass := p.pass }

/-- 06 R106: the pending part merged into the record's half of its direction. -/
def LineRecord.merge (r : LineRecord) (p : PendingPart) : LineRecord :=
  r.setHalf p.direction (mergeHalf (r.half p.direction) p)

/-- 06 R107: the half of a direction is already at n = 65535. -/
def LineRecord.halfFull (r : LineRecord) (d : Direction) : Bool :=
  match r.half d with
  | none => false
  | some h => decide (Config.top16 ≤ h.n)

/-- 06 R107, 07 R122: the commit merges the record's pending capture. -/
def LineRecord.commits (r : LineRecord) : Bool :=
  match r.state, r.pending with
  | .taken, some p => !r.halfFull p.direction && !p.double
  | _, _ => false

/-- 06 R107: a record at the commit of a pass. -/
def LineRecord.commit (r : LineRecord) : LineRecord :=
  match r.state with
  | .taken =>
    let r0 := { r with pending := none }
    match r.pending with
    | none => { r0 with state := .armed }
    | some p =>
      if r.halfFull p.direction then { r0 with full := true, state := .dormant }
      else if p.double then
        { r0 with doubles := satInc Config.top16 r.doubles, state := .armed }
      else
        let m := r0.merge p
        if m.isComplete then { m with complete := true, state := .dormant }
        else { m with complete := false, state := .armed }
  | .missed =>
    { r with misses := satInc Config.top16 r.misses, state := .armed, pending := none }
  | .dormant | .primed | .armed | .retired => r

/-- 06 R108: a record at the discard of a pass. -/
def LineRecord.discard (r : LineRecord) : LineRecord :=
  match r.state with
  | .taken | .missed => { r with state := .armed, pending := none }
  | .dormant | .primed | .armed | .retired => r

/-- 06 R115: a record at a restart. -/
def LineRecord.restart (r : LineRecord) : LineRecord :=
  match r.state with
  | .taken | .missed | .primed => { r with state := .armed, pending := none }
  | .dormant | .armed | .retired => { r with pending := none }

/-- 06 R96: at the opening of a pass every PRIMED record becomes ARMED. -/
def LineRecord.joinPass (r : LineRecord) : LineRecord :=
  match r.state with
  | .primed => { r with state := .armed }
  | .dormant | .armed | .taken | .missed | .retired => r

/-- 07 R131: the window has been crossed between X_start and X_far. -/
def LineRecord.crossed (r : LineRecord) (d : Direction) (xStart xFar : Int) : Bool :=
  match d with
  | .fwd => decide (xStart ≤ r.lower) && decide (r.upper < xFar)
  | .rev => decide (r.upper ≤ xStart) && decide (xFar < r.lower)

/-- 07 R131: an ARMED record whose window has been crossed becomes MISSED. -/
def LineRecord.markCrossed (d : Direction) (xStart xFar : Int) (r : LineRecord) : LineRecord :=
  match r.state with
  | .armed => if r.crossed d xStart xFar then { r with state := .missed } else r
  | .dormant | .primed | .taken | .missed | .retired => r

/-- 07 R132: the pending part formed from a capture. -/
def pendingOf (c : Capture) (d : Direction) (number : BitVec 32) : PendingPart :=
  { x := c.x, y := c.y, marks := c.marks, direction := d, pass := number, double := false }

/-- 07 R132, R133: a record made TAKEN by a capture. -/
def LineRecord.take (r : LineRecord) (p : PendingPart) : LineRecord :=
  { r with state := .taken, pending := some p }

/-- 07 R134: the double mark of the pending part set. -/
def LineRecord.markDouble (r : LineRecord) : LineRecord :=
  { r with pending := r.pending.map (fun p => { p with double := true }) }

/-! ### What one request does to one record (06 section 6.4) -/

/-- The effect of a request on one record. -/
inductive RecordEffect where
  | refused
  | same
  | changed (r : LineRecord)
  | removed
  deriving DecidableEq, Repr

/-- 06 R96: the state an armed record takes. -/
def armedState (passOpen : Bool) : RecordState := if passOpen then .primed else .armed

/-- 06 R102. -/
def LineRecord.armEffect (passOpen : Bool) (r : LineRecord) : RecordEffect :=
  if r.full then .refused
  else
    match r.state with
    | .retired => .refused
    | .dormant => .changed { r with state := armedState passOpen }
    | .primed | .armed | .taken | .missed => .same

/-- 06 R103. -/
def LineRecord.disarmEffect (r : LineRecord) : RecordEffect :=
  match r.state with
  | .retired => .refused
  | .dormant => .same
  | .primed | .armed | .taken | .missed => .changed { r with state := .dormant, pending := none }

/-- 06 R104. -/
def LineRecord.retireEffect (r : LineRecord) : RecordEffect :=
  match r.state with
  | .retired => .same
  | .dormant | .primed | .armed | .taken | .missed =>
    .changed { r with state := .retired, pending := none }

/-- 06 R99. -/
def LineRecord.dropEffect (r : LineRecord) : RecordEffect :=
  match r.state with
  | .armed | .taken | .missed => .refused
  | .dormant | .primed | .retired => .removed

/-- 06 R105: the record with its statistics emptied. -/
def LineRecord.cleared (r : LineRecord) : LineRecord :=
  { r with fwd := none, rev := none, misses := 0, doubles := 0, complete := false, full := false }

/-- 06 R105. -/
def LineRecord.clearEffect (r : LineRecord) : RecordEffect :=
  match r.state with
  | .taken | .missed | .retired => .refused
  | .dormant | .primed | .armed => if r.cleared = r then .same else .changed r.cleared

/-- 06 R99, R102 to R105: a request that names one record. -/
def State.serveRecord (s : State) (line : Int) (eff : LineRecord → RecordEffect) : Served :=
  match findLine s.table line with
  | none => s.refuse .notFound
  | some r =>
    match eff r with
    | .refused => s.refuse .state
    | .same => { state := s, status := .ok }
    | .changed r' => { state := s.withTable (replaceLine s.table line r'), status := .ok }
    | .removed => { state := s.withTable (removeLine s.table line), status := .ok }

/-- ARM (06 R102). -/
def State.serveArm (s : State) (line : Int) : Served :=
  s.serveRecord line (LineRecord.armEffect s.passOpen)

/-- DISARM (06 R103). -/
def State.serveDisarm (s : State) (line : Int) : Served := s.serveRecord line LineRecord.disarmEffect

/-- RETIRE (06 R104). -/
def State.serveRetire (s : State) (line : Int) : Served := s.serveRecord line LineRecord.retireEffect

/-- DROP (06 R99). -/
def State.serveDrop (s : State) (line : Int) : Served := s.serveRecord line LineRecord.dropEffect

/-- CLEAR (06 R105). -/
def State.serveClear (s : State) (line : Int) : Served := s.serveRecord line LineRecord.clearEffect

/-! ### PLACE and AMEND -/

/-- 06 R97 step 1, 11 R178. -/
def placeInRange (f : PlaceFields) : Bool :=
  lineInRange f.line && nominalInRange f.nominal && halfWidthInRange f.halfWidth
    && classInRange f.cls && targetInRange f.targetFwd && targetInRange f.targetRev
    && (boolOfCode f.datum).isSome && (initialOfCode f.initial).isSome

/-- 06 R98: the record PLACE makes. -/
def placeRecord (f : PlaceFields) (passOpen : Bool) : LineRecord :=
  { line := f.line, nominal := f.nominal, halfWidth := f.halfWidth, cls := f.cls
    targetFwd := f.targetFwd, targetRev := f.targetRev
    datum := (boolOfCode f.datum).getD false
    state := if (initialOfCode f.initial).getD false then armedState passOpen else .dormant
    misses := 0, doubles := 0, complete := false, full := false
    fwd := none, rev := none, pending := none }

/-- PLACE (06 R97, R98). -/
def State.servePlace (s : State) (f : PlaceFields) : Served :=
  if !placeInRange f then s.refuse .range
  else if (findLine s.table f.line).isSome then s.refuse .exists_
  else if Config.tablePlaces ≤ s.table.length then s.refuse .tableFull
  else if !orderHolds s.table f.line f.nominal then s.refuse .order
  else if !windowFree s.table f.line f.nominal f.halfWidth then s.refuse .overlap
  else { state := s.withTable (insertRecord (placeRecord f s.passOpen) s.table), status := .ok }

/-- A check on a field AMEND carries; a field it does not carry is not tested (11 R178). -/
def ifCarried {α : Type} (ok : α → Bool) : Option α → Bool
  | none => true
  | some v => ok v

/-- 06 R100 step 1, 11 R178. -/
def amendInRange (f : AmendFields) : Bool :=
  ifCarried nominalInRange f.nominal && ifCarried halfWidthInRange f.halfWidth
    && ifCarried classInRange f.cls && ifCarried targetInRange f.targetFwd
    && ifCarried targetInRange f.targetRev
    && ifCarried (fun d => (boolOfCode d).isSome) f.datum

/-- 06 R101: the record with the carried values. -/
def amendSettings (f : AmendFields) (r : LineRecord) : LineRecord :=
  { r with
    nominal := f.nominal.getD r.nominal
    halfWidth := f.halfWidth.getD r.halfWidth
    cls := f.cls.getD r.cls
    targetFwd := f.targetFwd.getD r.targetFwd
    targetRev := f.targetRev.getD r.targetRev
    datum := (f.datum.bind boolOfCode).getD r.datum }

/-- 06 R101: what a change of window does to a record in TAKEN or MISSED. -/
def LineRecord.windowChanged (r : LineRecord) : LineRecord :=
  match r.state with
  | .taken | .missed => { r with state := .primed, pending := none }
  | .dormant | .primed | .armed | .retired => r

/-- 06 R101: the record after an AMEND that is taken. -/
def amendApply (f : AmendFields) (r : LineRecord) : LineRecord :=
  let a := amendSettings f r
  let b := if a.nominal = r.nominal ∧ a.halfWidth = r.halfWidth then a else a.windowChanged
  if a.targetFwd = r.targetFwd ∧ a.targetRev = r.targetRev then b
  else { b with complete := b.isComplete }

/-- AMEND (06 R100, R101). -/
def State.serveAmend (s : State) (f : AmendFields) : Served :=
  if !amendInRange f then s.refuse .range
  else
    match findLine s.table f.line with
    | none => s.refuse .notFound
    | some r =>
      if r.state = .retired then s.refuse .state
      else if !ifCarried (orderHolds s.table f.line) f.nominal then s.refuse .order
      else if !windowFree s.table f.line (amendSettings f r).nominal (amendSettings f r).halfWidth then
        s.refuse .overlap
      else { state := s.withTable (replaceLine s.table f.line (amendApply f r)), status := .ok }

/-! ### Reading -/

/-- 06 R109: rounded(sum_x / n). -/
def Half.meanX (h : Half) : Int := roundDiv h.sumX h.n

/-- 06 R109: rounded(sum_y / ny), absent when ny is 0. -/
def Half.meanY (h : Half) : Option Int := if h.ny = 0 then none else some (roundDiv h.sumY h.ny)

/-- 06 R109: mean_x of FWD minus mean_x of REV, when both halves are present. -/
def LineRecord.fwdMinusRev (r : LineRecord) : Option Int :=
  match r.fwd, r.rev with
  | some f, some v => some (f.meanX - v.meanX)
  | _, _ => none

/-- 11 section 11.4: a half block of 68 bytes. -/
def halfBlock (nominal : Int) : Option Half → Bytes
  | none => List.replicate 68 0
  | some h =>
    sentU 2 h.n ++ sentS 8 h.sumX ++ sentS 6 h.minX ++ sentS 6 h.maxX ++ sentS 6 h.lastX
      ++ sentU 2 h.ny ++ sentS 8 h.sumY ++ sentU 2 h.flagged ++ sentU 4 h.lastPass.toNat
      ++ sentS 6 h.meanX ++ sentS 6 (h.meanX - nominal) ++ sentS 6 (h.meanY.getD 0)
      ++ sentS 6 (h.maxX - h.minX)

/-- 11 section 11.4: the pending block of 19 bytes. -/
def pendingBlock : Option PendingPart → Bytes
  | none => List.replicate 19 0
  | some p =>
    sentS 6 p.x ++ sentS 6 (p.y.getD 0) ++ sentB p.marks.code ++ sentB p.direction.code
      ++ sentU 4 p.pass.toNat ++ sentFlag p.double

/-- 11 section 11.4: the presence byte. -/
def LineRecord.presence (r : LineRecord) : Nat :=
  boolCode r.fwd.isSome + 2 * boolCode r.rev.isSome + 4 * boolCode r.pending.isSome
    + 8 * boolCode (r.fwd.bind Half.meanY).isSome + 16 * boolCode (r.rev.bind Half.meanY).isSome
    + 32 * boolCode r.fwdMinusRev.isSome

/-- 11 section 11.4: the data of a READ reply, 186 bytes after the header of 3. -/
def LineRecord.readData (r : LineRecord) : Bytes :=
  sentS 4 r.line ++ sentS 6 r.nominal ++ sentU 4 r.halfWidth ++ sentB r.cls ++ sentB r.targetFwd
    ++ sentB r.targetRev ++ sentFlag r.datum ++ sentB r.state.code ++ sentU 2 r.misses
    ++ sentU 2 r.doubles ++ sentB r.marksCode ++ sentB r.presence ++ halfBlock r.nominal r.fwd
    ++ halfBlock r.nominal r.rev ++ pendingBlock r.pending ++ sentS 6 (r.fwdMinusRev.getD 0)

/-- READ (06 R109). -/
def State.serveRead (s : State) (line : Int) : Served :=
  match findLine s.table line with
  | none => s.refuse .notFound
  | some r => { state := s, status := .ok, data := r.readData }

/-- 06 R110: what FIND says of the record whose window holds the position. -/
def foundBlock (x : Int) (r : LineRecord) : Bytes :=
  sentS 4 r.line ++ sentS 6 r.nominal ++ sentS 6 r.halfWidth ++ sentB r.cls ++ sentB r.state.code
    ++ sentB r.marksCode ++ sentS 6 (x - r.nominal)

/-- 06 R110: what FIND says of a record on one side. -/
def sideBlock (r : LineRecord) : Bytes := sentS 4 r.line ++ sentS 6 r.nominal

/-- 06 R110: the record with the greatest upper edge below a position. -/
def recordBelow (t : List LineRecord) (x : Int) : Option LineRecord :=
  (t.filter (fun r => decide (r.upper < x))).getLast?

/-- 06 R110: the record with the least lower edge above a position. -/
def recordAbove (t : List LineRecord) (x : Int) : Option LineRecord :=
  t.find? (fun r => decide (x < r.lower))

/-- FIND (06 R110; layout: log entry 16). -/
def State.serveFind (s : State) (x : Int) : Served :=
  let hit := findWindow s.table x
  let side := fun (r : Option LineRecord) => if hit.isSome then none else r
  { state := s, status := .ok
    data := sentOpt 25 (foundBlock x) hit ++ sentOpt 10 sideBlock (side (recordBelow s.table x))
      ++ sentOpt 10 sideBlock (side (recordAbove s.table x)) }

/-- A class mask selects a record's class (11 section 11.2). -/
def classSelected (mask : Nat) (r : LineRecord) : Bool := mask.testBit r.cls

/-- 06 R111: the record a walk finds; none for a mode that is no choice. -/
def stepFind (t : List LineRecord) (mode : Nat) (line : Int) (mask : Nat) :
    Option (Option LineRecord) :=
  let v := t.filter (classSelected mask)
  match mode with
  | 0 => some v.head?
  | 1 => some v.getLast?
  | 2 => some (v.find? (fun r => decide (line < r.line)))
  | 3 => some (v.filter (fun r => decide (r.line < line))).getLast?
  | _ => none

/-- 06 R111: n of a half, 0 for an absent half. -/
def halfN : Option Half → Nat
  | none => 0
  | some h => h.n

/-- 06 R111: the data of a STEP reply (widths: log entry 16). -/
def LineRecord.stepData (r : LineRecord) : Bytes :=
  sentS 4 r.line ++ sentS 6 r.nominal ++ sentS 6 r.halfWidth ++ sentB r.cls ++ sentB r.state.code
    ++ sentFlag r.datum ++ sentB r.marksCode ++ sentU 2 r.misses ++ sentU 2 r.doubles
    ++ sentU 2 (halfN r.fwd) ++ sentU 2 (halfN r.rev)

/-- STEP (06 R111). -/
def State.serveStep (s : State) (f : StepFields) : Served :=
  if (f.mode == 2 || f.mode == 3) && !lineInRange f.line then s.refuse .range
  else
    match stepFind s.table f.mode f.line f.mask with
    | none => s.refuse .range
    | some none => s.refuse .notFound
    | some (some r) => { state := s, status := .ok, data := r.stepData }

/-- How many records satisfy a test. -/
def countRecords (t : List LineRecord) (test : LineRecord → Bool) : Nat := (t.filter test).length

/-- How many records are in a state. -/
def countState (t : List LineRecord) (st : RecordState) : Nat :=
  countRecords t (fun r => r.state == st)

/-- 06 R112: the data of a TABLE_SUMMARY reply. -/
def summaryData (t : List LineRecord) : Bytes :=
  sentU 2 t.length ++ sentU 2 (Config.tablePlaces - t.length)
    ++ sentU 2 (countState t .dormant) ++ sentU 2 (countState t .primed)
    ++ sentU 2 (countState t .armed) ++ sentU 2 (countState t .taken)
    ++ sentU 2 (countState t .missed) ++ sentU 2 (countState t .retired)
    ++ sentU 2 (countRecords t LineRecord.complete) ++ sentU 2 (countRecords t LineRecord.full)
    ++ sentU 2 (countRecords t LineRecord.datum)
    ++ (List.range 8).flatMap (fun c => sentU 2 (countRecords t (fun r => r.cls == c)))
    ++ sentOpt 4 (fun r => sentS 4 r.line) t.head?
    ++ sentOpt 4 (fun r => sentS 4 r.line) t.getLast?

/-- TABLE_SUMMARY (06 R112). -/
def State.serveSummary (s : State) : Served :=
  { state := s, status := .ok, data := summaryData s.table }

/-! ### CLASS_OP -/

/-- 06 R113: the effect of an operation code on one record. -/
def classEffect (passOpen : Bool) : Nat → Option (LineRecord → RecordEffect)
  | 0 => some (LineRecord.armEffect passOpen)
  | 1 => some LineRecord.disarmEffect
  | 2 => some LineRecord.retireEffect
  | 3 => some LineRecord.dropEffect
  | 4 => some LineRecord.clearEffect
  | _ => none

/-- 06 R113: an effect that changes the record or removes it is applied, any other skipped. -/
def RecordEffect.applies : RecordEffect → Bool
  | .changed _ | .removed => true
  | .refused | .same => false

/-- What an effect leaves of the record it was judged on. -/
def RecordEffect.leaves (r : LineRecord) : RecordEffect → Option LineRecord
  | .changed r' => some r'
  | .removed => none
  | .refused | .same => some r

/-- 06 R113: the table after the operation, records in ascending order. -/
def classApply (mask : Nat) (eff : LineRecord → RecordEffect) (t : List LineRecord) :
    List LineRecord :=
  t.filterMap (fun r => if classSelected mask r then (eff r).leaves r else some r)

/-- CLASS_OP (06 R113). -/
def State.serveClassOp (s : State) (mask operation : Nat) : Served :=
  match classEffect s.passOpen operation with
  | none => s.refuse .range
  | some eff =>
    let selected := countRecords s.table (classSelected mask)
    let applied := countRecords s.table (fun r => classSelected mask r && (eff r).applies)
    { state := s.withTable (classApply mask eff s.table), status := .ok
      data := sentU 2 selected ++ sentU 2 applied ++ sentU 2 (selected - applied) }

end Sys2Proof.Machine
end

