-- ==== Sys2Proof/Machine/PassMonitor.lean ====
section
/-! DEFINITION. The pass monitor (07): opening and closing of passes, the check, matching of captures,
and the pass requests. -/

namespace Sys2Proof.Machine

/-! ### Small updates -/

/-- The pass monitor with its context replaced. -/
def State.setContext (s : State) (c : Option PassContext) : State :=
  s.withPass { s.pass with context := c }

/-- The pass monitor's previous check X replaced. -/
def State.setPrevX (s : State) (x : Option Int) : State := s.withPass { s.pass with prevX := x }

/-- The open pass's counters changed. -/
def State.count (s : State) (f : PassCounters → PassCounters) : State :=
  s.setContext (s.pass.context.map (fun c => { c with counters := f c.counters }))

/-- 07 R130: a pass counter that saturates at its top. -/
def inc32 (n : Nat) : Nat := satInc Config.top32 n

/-- 07 R135: a crowded pulse is counted in the open pass. -/
def State.countCrowded (s : State) : State :=
  s.count (fun c => { c with crowded := inc32 c.crowded })

/-! ### Opening -/

/-- 07 R120: a pass opens; every PRIMED record becomes ARMED. -/
def State.openPass (s : State) (d : Direction) (origin : PassMode) (xStart xFar : Int) : State :=
  let number := s.pass.number + 1
  let ctx : PassContext :=
    { number := number, direction := d, origin := origin, opening := s.newestIndex
      xStart := xStart, xFar := xFar, settleRun := 0, counters := .zero }
  (s.withPass { s.pass with number := number, context := some ctx }).withTable
    (s.table.map LineRecord.joinPass)

/-- 07 R131: the line table marks the crossings of the open pass. -/
def State.markCrossings (s : State) : State :=
  match s.pass.context with
  | none => s
  | some c => s.withTable (s.table.map (LineRecord.markCrossed c.direction c.xStart c.xFar))

/-! ### Closing -/

/-- 07 R124: the summary of a pass that closes. -/
def PassContext.summary (c : PassContext) (closing : Nat) (outcome : PassOutcome)
    (reason : PassReason) (misses committed : Nat) : PassSummary :=
  { number := c.number, direction := c.direction, origin := c.origin, opening := c.opening
    closing := closing, outcome := outcome, reason := reason, xStart := c.xStart, xFar := c.xFar
    counters := c.counters, misses := misses, committed := committed }

/-- 07 R122: the open pass closes COMPLETE: commit, summary, PASS_DONE. -/
def State.closeComplete (s : State) (reason : PassReason) : State :=
  match s.pass.context with
  | none => s
  | some c =>
    let committed := countRecords s.table LineRecord.commits
    let misses := countState s.table .missed
    let sum := c.summary s.newestIndex .complete reason misses committed
    ((s.withTable (s.table.map LineRecord.commit)).withPass
      { s.pass with context := none, last := some sum }).raise .passDone

/-- 07 R123: the open pass closes ABORTED and is discarded; PASS_ABORTED is for the caller. -/
def State.discardPass (s : State) (reason : PassReason) : State :=
  match s.pass.context with
  | none => s
  | some c =>
    let sum := c.summary s.newestIndex .aborted reason 0 0
    (s.withTable (s.table.map LineRecord.discard)).withPass
      { s.pass with context := none, last := some sum }

/-- 07 R123: an ABORTED close that raises PASS_ABORTED. -/
def State.closeAborted (s : State) (reason : PassReason) : State :=
  if s.passOpen then (s.discardPass reason).raise .passAborted else s

/-! ### The check -/

/-- 07 R117: x lies further than the furthest X of a pass. -/
def further (d : Direction) (x far : Int) : Bool :=
  match d with
  | .fwd => decide (far < x)
  | .rev => decide (x < far)

/-- 07 R117: X_far moves and is handed over for crossing marks. -/
def State.advanceFar (s : State) (x : Int) : State :=
  match s.pass.context with
  | none => s
  | some c =>
    (s.setContext (some { c with xFar := if further c.direction x c.xFar then x else c.xFar })).markCrossings

/-- 07 R119: ΔX opposes a direction. -/
def opposes (d : Direction) (dx : Int) : Bool :=
  match d with
  | .fwd => decide (dx < 0)
  | .rev => decide (0 < dx)

/-- 07 R118, R119: the settle run, and in AUTO mode the closing tests, at a check with ΔX. -/
def State.settleTest (s : State) (dx : Int) : State :=
  match s.pass.context with
  | none => s
  | some c =>
    let quiet := decide (dx.natAbs < s.pass.stopThr)
    let run := if quiet then satInc 65535 c.settleRun else 0
    let s' := s.setContext (some { c with settleRun := run })
    if s.pass.mode = .auto then
      if quiet && decide (s.pass.settle ≤ run) then s'.closeComplete .standstill
      else if opposes c.direction dx && decide (s.pass.startThr ≤ dx.natAbs) then
        s'.closeComplete .reversal
      else s'
    else s'

/-- 07 R120: the AUTO opening test at a check with a valid X, ΔX and the previous check X. -/
def State.autoOpen (s : State) (x prev : Int) : State :=
  let dx := x - prev
  if s.pass.mode = .auto ∧ s.passOpen = false ∧ s.waiting = false
      ∧ s.pass.startThr ≤ dx.natAbs then
    (s.openPass (if 0 < dx then .fwd else .rev) .auto prev x).markCrossings
  else s

/-- 07 R116: a check of the newest sample. -/
def State.runCheck (s : State) : State :=
  let pos := s.position
  if pos.xValid then
    let s1 := s.advanceFar pos.x
    let s2 :=
      match s.pass.prevX with
      | none => s1
      | some prev => (s1.settleTest (pos.x - prev)).autoOpen pos.x prev
    s2.setPrevX (some pos.x)
  else s.setPrevX none

/-! ### Captures at the line table -/

/-- 07 R132, R133: a record's take counted. -/
def PassCounters.countTake (c : PassCounters) (late flagged : Bool) : PassCounters :=
  { c with
    taken := if late then c.taken else inc32 c.taken
    late := if late then inc32 c.late else c.late
    flagged := if flagged then inc32 c.flagged else c.flagged }

/-- The motion direction of a capture is the pass's direction (07 R130 case 4). -/
def Motion.agrees : Motion → Direction → Bool
  | .fwd, .fwd => true
  | .rev, .rev => true
  | .none, _ | .fwd, .rev | .rev, .fwd => false

/-- 07 R130 cases 1 to 4: the capture matches no record that takes part; otherwise the record whose
window holds it. -/
def matchCapture (t : List LineRecord) (d : Direction) (c : Capture) : Option LineRecord :=
  if !c.ref then none
  else
    match findWindow t c.x with
    | none => none
    | some r =>
      match r.state with
      | .dormant | .primed | .retired => none
      | .armed | .taken | .missed => if c.direction.agrees d then some r else none

/-- 07 R130, R132 to R135: a capture that reaches the line table. -/
def State.tableCapture (s : State) (c : Capture) : State :=
  match s.pass.context with
  | none => s.withPass { s.pass with idleStrays := inc32 s.pass.idleStrays }
  | some ctx =>
    let s := s.count (fun n => { n with delivered := inc32 n.delivered })
    match matchCapture s.table ctx.direction c with
    | none => s.count (fun n => { n with strays := inc32 n.strays })
    | some r =>
      let p := pendingOf c ctx.direction ctx.number
      match r.state with
      | .taken =>
        (s.withTable (replaceLine s.table r.line r.markDouble)).count
          (fun n => { n with doubles := inc32 n.doubles })
      | .missed =>
        (s.withTable (replaceLine s.table r.line (r.take p))).count
          (fun n => n.countTake true c.marks.flagged)
      | .armed | .dormant | .primed | .retired =>
        (s.withTable (replaceLine s.table r.line (r.take p))).count
          (fun n => n.countTake false c.marks.flagged)

/-! ### Requests -/

/-- PASS_SET (07 R125). -/
def State.servePassSet (s : State) (f : PassFields) : Served :=
  match modeOfCode f.mode with
  | none => s.refuse .range
  | some mode =>
    let start := clampNat 100 1000000 f.startThr
    let stop := clampNat 10 start f.stopThr
    let settle := clampNat 1 65535 f.settle
    { state := s.withPass
        { s.pass with mode := mode, startThr := start, stopThr := stop, settle := settle }
      status := okOrAdjusted (decide (start ≠ f.startThr ∨ stop ≠ f.stopThr ∨ settle ≠ f.settle))
      data := sentB mode.code ++ sentU 4 start ++ sentU 4 stop ++ sentU 2 settle }

/-- PASS_OPEN (07 R126). -/
def State.servePassOpen (s : State) (direction : Nat) : Served :=
  match directionOfCode direction with
  | none => s.refuse .range
  | some d =>
    if s.pass.mode = .auto then s.refuse .state
    else if s.passOpen then s.refuse .inPass
    else if !s.xReferenced || s.waiting then s.refuse .state
    else
      let x := s.position.x
      { state := s.openPass d .host x x, status := .ok
        data := sentU 4 (s.pass.number + 1).toNat }

/-- PASS_CLOSE (07 R127). -/
def State.servePassClose (s : State) : Served :=
  match s.pass.context with
  | none => s.refuse .state
  | some c =>
    { state := s.closeComplete .closeRequest, status := .ok, data := sentU 4 c.number.toNat }

/-- PASS_ABORT (07 R128). -/
def State.servePassAbort (s : State) : Served :=
  match s.pass.context with
  | none => s.refuse .state
  | some c =>
    { state := s.closeAborted .abortRequest, status := .ok, data := sentU 4 c.number.toNat }

/-- The seven counters as sent (11 R177). -/
def PassCounters.data (c : PassCounters) : Bytes :=
  sentU 4 c.delivered ++ sentU 4 c.taken ++ sentU 4 c.late ++ sentU 4 c.doubles
    ++ sentU 4 c.strays ++ sentU 4 c.crowded ++ sentU 4 c.flagged

/-- 07 R129: the context of an open pass as sent, 56 bytes. -/
def PassContext.data (c : PassContext) : Bytes :=
  sentU 4 c.number.toNat ++ sentB c.direction.code ++ sentB c.origin.code ++ sentU 8 c.opening
    ++ sentS 6 c.xStart ++ sentS 6 c.xFar ++ sentU 2 c.settleRun ++ c.counters.data

/-- 07 R124: the last-pass summary as sent, 68 bytes. -/
def PassSummary.data (m : PassSummary) : Bytes :=
  sentU 4 m.number.toNat ++ sentB m.direction.code ++ sentB m.origin.code ++ sentU 8 m.opening
    ++ sentU 8 m.closing ++ sentB m.outcome.code ++ sentB m.reason.code ++ sentS 6 m.xStart
    ++ sentS 6 m.xFar ++ m.counters.data ++ sentU 2 m.misses ++ sentU 2 m.committed

/-- A position with its validity and marks as sent: the three values, then one flag byte for X and yaw
together and one for Y, then the marks. The number and the place of the flag bytes are the model's reading
(DEDUCED, unsafe, log entry 16). -/
def Position.data (p : Position) : Bytes :=
  sentS 6 p.x ++ sentS 4 p.yaw ++ sentS 6 p.y ++ sentFlag p.xValid ++ sentFlag p.yValid
    ++ sentB p.marks.code

/-- READ_PASS (07 R129). R177's table names no kind for the settle count; it is sent in 2 bytes unsigned as
PASS_SET sends it (DEDUCED, unsafe, log entry 16, with the rest of the layout). -/
def State.serveReadPass (s : State) : Served :=
  let u := s.pass
  let open_ := u.context.isSome
  { state := s, status := .ok
    data :=
      sentB u.mode.code ++ sentS 6 u.startThr ++ sentS 6 u.stopThr ++ sentU 2 u.settle
        ++ sentFlag open_ ++ sentOpt 56 PassContext.data u.context
        ++ sentOpt 4 (fun _ => sentU 2 (countState s.table .taken)
            ++ sentU 2 (countState s.table .missed)) u.context
        ++ sentU 4 u.number.toNat ++ sentU 4 u.idleStrays ++ sentOpt 6 (sentS 6) u.prevX
        ++ sentOpt 68 PassSummary.data u.last ++ s.position.data }

/-- 07 R138: the pass monitor at a restart. -/
def State.passRestart (s : State) : State :=
  let s := s.discardPass .restart
  s.withPass { s.pass with prevX := none, idleStrays := 0 }

end Sys2Proof.Machine
end

