-- ==== Sys2Proof/Machine/Reference.lean ====
section
/-! DEFINITION. Reference control (08): the wait, its endings, the datum capture and the requests; and
the routing of captures between it and the line table (05 R89). -/

namespace Sys2Proof.Machine

/-- 08 R148: a wait ends: the record is written and reference control is IDLE. -/
def State.endWait (s : State) (outcome : RerefOutcome) (capture : Option RerefCapture)
    (applied : Option RerefApplied) : State :=
  match s.reref.wait with
  | none => s
  | some w =>
    s.withReref
      { wait := none
        result := some
          { outcome := outcome, line := w.line, accepting := w.accepting
            endSample := s.newestIndex, discarded := w.discarded
            capture := capture, applied := applied } }

/-- 08 R148: an ending that raises REREF_END. -/
def State.finishWait (s : State) (outcome : RerefOutcome) (capture : Option RerefCapture)
    (applied : Option RerefApplied) : State :=
  if s.waiting then (s.endWait outcome capture applied).raise .rerefEnd else s

/-- 08 R145: the valid-from sample moves, never back. -/
def State.moveValidFrom (s : State) (k : Nat) : State :=
  match s.reref.wait with
  | none => s
  | some w =>
    s.withReref { s.reref with wait := some { w with validFrom := max w.validFrom k } }

/-- 08 R145: a change of an epoch of XL or XR at a request moves it to the newest sample plus one. -/
def State.epochMoved (s : State) (ch : Channel) : State :=
  match ch with
  | .xl | .xr => s.moveValidFrom (nextIndex s.newestIndex)
  | .y | .t => s

/-- The capture fields a result keeps (08 section 8.1). -/
def Capture.kept (c : Capture) : RerefCapture :=
  { k := c.k, tOff := c.tOff, direction := c.direction, marks := c.marks, ref := c.ref
    x := c.x, yaw := c.yaw, rEff := c.rEff, wEff := c.wEff }

/-- 08 R146: the half whose target a motion takes, with the target. -/
def Wait.choose (w : Wait) (d : Direction) : Option (Direction × Int) :=
  match d, w.targetFwd, w.targetRev with
  | .fwd, some t, _ => some (.fwd, t)
  | .fwd, none, some t => some (.rev, t)
  | .rev, _, some t => some (.rev, t)
  | .rev, some t, none => some (.fwd, t)
  | _, none, none => none

/-- The direction of a motion; NONE has none. -/
def Motion.direction : Motion → Option Direction
  | .none => Option.none
  | .fwd => some .fwd
  | .rev => some .rev

/-- 08 R147: ΔP that puts a path term at the target. -/
def correctionOf (target path wEff : Int) : Int :=
  roundDiv ((target - path) * Config.wScale) wEff

/-- 08 R147: the datum capture applied to XL and XR. -/
def State.applyDatum (s : State) (c : Capture) (half : Direction) (target : Int) : State :=
  let pathXL := pathTerm c.pXL c.wEff
  let pathXR := pathTerm c.pXR c.wEff
  let dpXL := correctionOf target pathXL c.wEff
  let dpXR := correctionOf target pathXR c.wEff
  let s1 := s.setCounter .xl ((s.chan .xl).counter.rebase dpXL c.rEff)
  let s2 := s1.setCounter .xr ((s1.chan .xr).counter.rebase dpXR c.rEff)
  (s2.setPrevX none).finishWait .done (some c.kept)
    (some ⟨half, target, pathXL, pathXR, dpXL, dpXR⟩)

/-- 08 R145 to R147: a capture that reference control receives while WAITING. The test is that of R145, the
bracket sample k against the valid-from sample, also for a pulse accepted before the REREF: where a small
latency has put its k on the sample after the accepting one (05 R84), the test makes it the datum capture,
although R145 calls a capture of such a pulse discarded (DEDUCED, unsafe, log entry 32). -/
def State.rerefCapture (s : State) (c : Capture) : State :=
  match s.reref.wait with
  | none => s
  | some w =>
    if c.k < w.validFrom then
      s.withReref
        { s.reref with wait := some { w with discarded := satInc Config.top16 w.discarded } }
    else
      match c.direction.direction.bind w.choose with
      | none => s.finishWait .failedNoMotion (some c.kept) none
      | some (half, target) => s.applyDatum c half target

/-- 05 R89: a formed capture goes to reference control while it is WAITING, else to the line table. -/
def State.routeCapture (s : State) (c : Capture) : State :=
  if s.waiting then s.rerefCapture c else s.tableCapture c

/-- 05 R84: the capture in flight is formed when both its entries are present, dropped when its first
entry can no longer come, and otherwise stays in flight. -/
def State.completeCapture (s : State) : State :=
  match s.line.inFlight with
  | none => s
  | some b =>
    match s.bracketEntries b with
    | some (e0, e1) =>
      let s := s.withLine { s.line with inFlight := none }
      s.routeCapture (s.formCapture b.tOff e0 e1)
    | none =>
      if s.bracketLost b.k then s.withLine { s.line with inFlight := none } else s

/-- REREF (08 R139, R140). -/
def State.serveReref (s : State) (line : Int) (timeoutS : Nat) : Served :=
  let unusable := fun (ch : Channel) =>
    match (s.chan ch).counter.state with
    | .off | .dark => true
    | .unreferenced | .tracking | .coasting => false
  if !lineInRange line || !(decide (1 ≤ timeoutS) && decide (timeoutS ≤ 600)) then s.refuse .range
  else if s.waiting then s.refuse .state
  else if s.passOpen then s.refuse .inPass
  else if unusable .xl || unusable .xr then s.refuse .state
  else
    match findLine s.table line with
    | none => s.refuse .notFound
    | some r =>
      if !r.datum || (r.fwd.isNone && r.rev.isNone) then s.refuse .state
      else
        { state := s.withReref
            { s.reref with
              wait := some
                { line := line, targetFwd := r.fwd.map Half.meanX, targetRev := r.rev.map Half.meanX
                  timeoutS := timeoutS, accepting := s.newestIndex
                  validFrom := nextIndex s.newestIndex, discarded := 0 } }
          status := .accepted }

/-- REREF_CANCEL (08 R144). -/
def State.serveRerefCancel (s : State) : Served :=
  if s.waiting then { state := s.finishWait .failedCancelled none none, status := .ok }
  else s.refuse .state

/-- 08 R142: the sample index at whose arrival the wait timer expires. -/
def Wait.deadline (w : Wait) : Nat := w.accepting + w.timeoutS * Config.samplesPerSecond

/-- 08 R149: the values of a wait as sent, 46 bytes. -/
def Wait.data (newest : Nat) (w : Wait) : Bytes :=
  sentS 4 w.line ++ sentOpt 6 (sentS 6) w.targetFwd ++ sentOpt 6 (sentS 6) w.targetRev
    ++ sentU 2 w.timeoutS ++ sentU 8 (w.deadline - newest) ++ sentU 8 w.accepting
    ++ sentU 8 w.validFrom ++ sentU 2 w.discarded

/-- 08 section 8.1: the capture fields of a result as sent, 33 bytes. -/
def RerefCapture.data (c : RerefCapture) : Bytes :=
  sentU 8 c.k ++ sentU 4 c.tOff ++ sentB c.direction.code ++ sentB c.marks.code ++ sentFlag c.ref
    ++ sentS 6 c.x ++ sentS 4 c.yaw ++ sentS 4 c.rEff ++ sentU 4 c.wEff.toNat

/-- 08 section 8.1: the result record as sent, 92 bytes. -/
def RerefResult.data (r : RerefResult) : Bytes :=
  sentB r.outcome.code ++ sentS 4 r.line ++ sentU 8 r.accepting ++ sentU 8 r.endSample
    ++ sentU 2 r.discarded ++ sentOpt 33 RerefCapture.data r.capture
    ++ sentOpt 1 (fun a => sentB a.half.code) r.applied
    ++ sentOpt 6 (fun a => sentS 6 a.target) r.applied
    ++ sentOpt 12 (fun a => sentS 6 a.pathXL ++ sentS 6 a.pathXR) r.applied
    ++ sentOpt 12 (fun a => sentS 6 a.dpXL ++ sentS 6 a.dpXR) r.applied

/-- REREF_RESULT (08 R149; layout: log entry 16). -/
def State.serveRerefResult (s : State) : Served :=
  { state := s, status := .ok
    data := sentFlag s.waiting ++ sentOpt 46 (Wait.data s.newestIndex) s.reref.wait
      ++ sentOpt 92 RerefResult.data s.reref.result }

/-- 08 R141: reference control at a restart; no REREF_END. -/
def State.rerefRestart (s : State) : State := s.endWait .failedRestart none none

end Sys2Proof.Machine
end

