-- ==== Sys2Proof/Machine/Settings.lean ====
section
/-! DEFINITION. Requests of the channels (02 section 2.7), the fit unit (03), the compensation unit (04),
the axis combiner and the line input (05), and the status unit (10): what each owner does and returns. -/

namespace Sys2Proof.Machine

/-! ### Channels -/

/-- 02 R30, R12: the request with its fields read, where every range test passes. -/
structure ChannelRequest where
  channel : Channel
  enable : Bool
  source : Source
  sense : Sense
  deriving DecidableEq, Repr

/-- 02 R30, 11 R178: the range tests of CHANNEL_SET. -/
def readChannelFields (f : ChannelFields) : Option ChannelRequest :=
  match channelOfCode f.channel, boolOfCode f.enable, sourceOfCode f.source, senseOfCode f.sense with
  | some ch, some en, some src, some sen =>
    if decide (64 ≤ f.floor) && decide (f.floor ≤ 1800) && decide (f.synthStep.natAbs ≤ 2047) then
      some ⟨ch, en, src, sen⟩
    else none
  | _, _, _, _ => none

/-- 02 R30, 01 R12: the settings of one channel take their new values. -/
def ChannelUnit.settings (u : ChannelUnit) (q : ChannelRequest) (f : ChannelFields) : ChannelUnit :=
  { front := u.front.settings q.source q.sense f.synthStep
    counter := u.counter.settings f.floor (clampNat 1 1000 f.coastLimit) f.trimInterval }

/-- 02 R31, 01 R13: a channel that is OFF is enabled; a re-reference in progress sees the new epoch. -/
def State.enableChannel (s : State) (ch : Channel) : State :=
  let u := s.chan ch
  (s.setChan ch ⟨u.front.enable, u.counter.enable⟩).epochMoved ch

/-- 02 R32: what the disabling of XL or XR ends: the open pass (07 R121) and the wait (08 R143). -/
def State.measuringLost (s : State) (ch : Channel) : State :=
  match ch with
  | .xl | .xr => (s.closeAborted .disabled).finishWait .failedSignal none none
  | .y | .t => s

/-- 02 R32, 03 R53: an enabled channel is disabled. -/
def State.disableChannel (s : State) (ch : Channel) : State :=
  let s := s.setCounter ch (s.chan ch).counter.disable
  (s.fitDisable ch).measuringLost ch

/-- CHANNEL_SET (02 R30 to R32, 01 R12, R13; reply: log entry 17). -/
def State.serveChannelSet (s : State) (f : ChannelFields) : Served :=
  match readChannelFields f with
  | none => s.refuse .range
  | some q =>
    let wasOff := decide ((s.chan q.channel).counter.state = .off)
    let s1 := s.setChan q.channel ((s.chan q.channel).settings q f)
    let s2 :=
      if q.enable && wasOff then s1.enableChannel q.channel
      else if !q.enable && !wasOff then s1.disableChannel q.channel
      else s1
    let limit := clampNat 1 1000 f.coastLimit
    { state := s2
      status := okOrAdjusted (decide (limit ≠ f.coastLimit))
      data := sentB f.channel ++ sentB f.enable ++ sentB f.source ++ sentB f.sense
        ++ sentS 2 f.synthStep ++ sentU 2 f.floor ++ sentU 2 limit ++ sentB f.trimInterval }

/-- PRESET (02 R33). -/
def State.servePreset (s : State) (channel : Nat) (p : Int) : Served :=
  match channelOfCode channel with
  | none => s.refuse .range
  | some ch =>
    if !countInRange p then s.refuse .range
    else
      match (s.chan ch).counter.state with
      | .off | .dark | .coasting => s.refuse .state
      | .unreferenced | .tracking =>
        if s.passOpen && (ch == .xl || ch == .xr) then s.refuse .inPass
        else
          { state := (s.setCounter ch ((s.chan ch).counter.preset p s.rEff)).epochMoved ch
            status := .ok }

/-- A parameter set as sent, 8 bytes. -/
def EllipseSet.data (e : EllipseSet) : Bytes :=
  sentS 2 e.offsetC ++ sentS 2 e.offsetS ++ sentU 2 e.g.toNat ++ sentS 2 e.sigma

/-- 02 R36: the values READ_CHANNEL returns, in the order listed (widths: log entry 16). -/
def ChannelUnit.data (u : ChannelUnit) (newest : Nat) : Bytes :=
  let c := u.counter
  let fe := u.front
  sentU 8 newest ++ sentFlag (!(c.state == .off)) ++ sentB c.state.code ++ sentS 6 c.p
    ++ sentS 2 c.lastPhase ++ sentS 2 c.lastStep ++ sentU 4 c.epoch.toNat ++ sentS 4 c.r0
    ++ sentU 2 c.acquireRun ++ sentU 2 c.coastRun ++ sentU 2 c.floor ++ sentU 2 c.coastLimit
    ++ sentB c.trimInterval ++ sentS 6 c.trimTravel ++ fe.params.data ++ sentB fe.source.code
    ++ sentB fe.sense.code ++ sentS 2 fe.synthStep ++ sentU 4 fe.clipCount ++ sentS 2 fe.phase
    ++ sentS 2 fe.amplitude ++ sentFlag fe.clipped

/-- READ_CHANNEL (02 R36). -/
def State.serveReadChannel (s : State) (channel : Nat) : Served :=
  match channelOfCode channel with
  | none => s.refuse .range
  | some ch => { state := s, status := .ok, data := (s.chan ch).data s.newestIndex }

/-! ### Fit unit -/

/-- 03 R40: the state test of FIT LONG and SHORT. -/
def fitStateOk : ChannelState → Bool
  | .unreferenced | .tracking => true
  | .off | .dark | .coasting => false

/-- FIT of kind LONG or SHORT (03 R40). -/
def State.serveEstimate (s : State) (ch : Channel) (kind : EstimateKind) : Served :=
  if !fitStateOk (s.chan ch).counter.state then s.refuse .state
  else if s.fit.holds ch then s.refuse .busy
  else { state := s.withFit (s.fit.submit ⟨ch, kind, .host⟩), status := .accepted }

/-- FIT of kind RESET (03 R50). -/
def State.serveReset (s : State) (ch : Channel) : Served :=
  if s.fit.pendingReset.get ch then s.refuse .busy
  else { state := s.takeReset ch, status := .accepted }

/-- FIT (03 R40, R50). -/
def State.serveFit (s : State) (channel kind : Nat) : Served :=
  match channelOfCode channel with
  | none => s.refuse .range
  | some ch =>
    match kind with
    | 0 => s.serveEstimate ch .long
    | 1 => s.serveEstimate ch .short
    | 2 => s.serveReset ch
    | _ => s.refuse .range

/-- The extremes as sent, 10 bytes. -/
def Extremes.data (e : Extremes) : Bytes :=
  sentS 2 e.maxC ++ sentS 2 e.minC ++ sentS 2 e.maxS ++ sentS 2 e.minS ++ sentS 2 e.sAtMaxC

/-- 03 section 3.8: a result record as sent, 61 bytes (layout: log entry 16). -/
def FitResult.data (r : FitResult) : Bytes :=
  sentB r.kind.code ++ sentB r.origin.code ++ sentB r.outcome.code ++ sentU 8 r.endSample
    ++ sentU 4 r.observed ++ sentU 4 r.unclipped ++ sentS 6 r.travel
    ++ sentOpt 10 Extremes.data r.extremes
    ++ sentOpt 4 (fun ab => sentU 2 ab.1.toNat ++ sentU 2 ab.2.toNat) r.halfAxes
    ++ r.oldSet.data ++ sentOpt 8 EllipseSet.data r.newSet ++ sentOpt 2 (sentS 2) r.jump

/-- 03 R55: the place of a channel's request; the working fit's progress; its queue position. -/
def FitUnit.place (f : FitUnit) (ch : Channel) : Nat × Option Accumulator × Option Nat :=
  match f.working with
  | some r =>
    if r.channel = ch then (1, some f.acc, none)
    else
      match f.queue.findIdx? (fun q => q.channel == ch) with
      | some i => (2, none, some (i + 1))
      | none => (if f.pendingReset.get ch then 3 else 0, none, none)
  | none =>
    match f.queue.findIdx? (fun q => q.channel == ch) with
    | some i => (2, none, some (i + 1))
    | none => (if f.pendingReset.get ch then 3 else 0, none, none)

/-- FIT_RESULT (03 R55). -/
def State.serveFitResult (s : State) (channel : Nat) : Served :=
  match channelOfCode channel with
  | none => s.refuse .range
  | some ch =>
    let place := s.fit.place ch
    { state := s, status := .ok
      data := sentOpt 61 FitResult.data (s.fit.result.get ch) ++ sentB place.1
        ++ sentOpt 14 (fun (a : Accumulator) =>
            sentU 4 a.observed ++ sentU 4 a.unclipped ++ sentS 6 a.travel) place.2.1
        ++ sentOpt 1 sentB place.2.2 ++ sentU 4 s.fit.timeoutMs }

/-- FIT_SET (03 R46). -/
def State.serveFitSet (s : State) (timeoutMs : Nat) : Served :=
  let t := clampNat 100 60000 timeoutMs
  { state := s.withFit { s.fit with timeoutMs := t }
    status := okOrAdjusted (decide (t ≠ timeoutMs))
    data := sentU 4 t }

/-! ### Compensation unit and geometry -/

/-- AIR_SET (04 R68). -/
def State.serveAirSet (s : State) (rHost : Int) (ageLimit driftLimit : Nat) : Served :=
  if !(decide (0 ≤ rHost) && decide (rHost ≤ 600000)) then s.refuse .range
  else
    let age := clampNat 1 3600 ageLimit
    let drift := clampNat 1 10000 driftLimit
    let t := (s.chan .t).counter
    { state := s.withAir
        { s.air with
          rHost := rHost, ageMs := 0, ageSamples := 0, ageLimit := age, driftLimit := drift
          snapshot := if trackerCounting t.state then some ⟨t.p, t.epoch⟩ else none
          stale := false, drift := false }
      status := okOrAdjusted (decide (age ≠ ageLimit ∨ drift ≠ driftLimit))
      data := sentS 4 rHost ++ sentU 2 age ++ sentU 2 drift }

/-- TRACKER_SET (04 R69). -/
def State.serveTrackerSet (s : State) (tPath : Nat) : Served :=
  if tPath = 0 ∨ (1000000 ≤ tPath ∧ tPath ≤ 2000000000) then
    { state := s.withAir { s.air with tPath := tPath }, status := .ok }
  else s.refuse .range

/-- A length with its mark, set when its channel is referenced (04 R72). -/
def State.lengthData (s : State) (ch : Channel) : Bytes :=
  sentS 6 (s.lengthNow ch (s.chan ch).counter.p) ++ sentFlag (s.referenced ch)

/-- READ_AIR (04 R72; layout: log entry 16). -/
def State.serveReadAir (s : State) : Served :=
  let a := s.air
  let t := (s.chan .t).counter
  let term := s.trackerTerm.getD (0, 0)
  { state := s, status := .ok
    data :=
      sentS 4 a.rHost ++ sentU 4 a.ageMs ++ sentU 2 a.ageLimit ++ sentU 2 a.driftLimit
        ++ sentOpt 10 (fun (n : Snapshot) => sentS 6 n.tSnap ++ sentU 4 n.epoch.toNat) a.snapshot
        ++ sentU 4 a.tPath ++ sentU 4 a.wVac ++ sentU 4 a.dXL ++ sentU 4 a.dXR ++ sentU 4 a.dY
        ++ sentFlag a.stale ++ sentFlag a.drift ++ sentU 8 s.newestIndex ++ sentS 6 t.p
        ++ sentU 4 t.epoch.toNat ++ sentB t.state.code ++ sentS 6 term.1 ++ sentS 4 term.2
        ++ sentS 4 s.rEff ++ sentU 4 s.wEff.toNat ++ sentB s.conversionMarks.code
        ++ s.lengthData .xl ++ s.lengthData .xr ++ s.lengthData .y }

/-- 04 R70: the range tests of GEOMETRY_SET. -/
def geometryInRange (f : GeometryFields) : Bool :=
  decide (1000000000 ≤ f.wVac) && decide (f.dXL ≤ 2000000) && decide (f.dXR ≤ 2000000)
    && decide (f.dY ≤ 2000000) && decide (f.f ≤ 65536)
    && decide (10000 ≤ f.b) && decide (f.b ≤ 1000000)

/-- GEOMETRY_SET (04 R70, R71, 05 R75). -/
def State.serveGeometrySet (s : State) (f : GeometryFields) : Served :=
  if !geometryInRange f then s.refuse .range
  else if s.passOpen then s.refuse .inPass
  else
    { state := (s.withAir { s.air with wVac := f.wVac, dXL := f.dXL, dXR := f.dXR, dY := f.dY }).withAxis
        { s.axis with f := f.f, b := f.b }
      status := .ok }

/-- LINE_SET (05 R81). -/
def State.serveLineSet (s : State) (f : LineFields) : Served :=
  match boolOfCode f.enable, edgeOfCode f.polarity with
  | some on, some pol =>
    let latency := clampNat 0 6300 f.latency
    let spacing := clampNat 200 100000 f.spacing
    let l := s.line
    { state := s.withLine
        { enable := on, polarity := pol, latency := latency, spacing := spacing
          lastEdge := if on && !l.enable then none else l.lastEdge
          inFlight := if !on && l.enable then none else l.inFlight }
      status := okOrAdjusted (decide (latency ≠ f.latency ∨ spacing ≠ f.spacing))
      data := sentFlag on ++ sentB (edgeCode pol) ++ sentU 4 latency ++ sentU 4 spacing }
  | _, _ => s.refuse .range

/-! ### Status unit -/

/-- STATUS (10 R175). -/
def State.serveStatus (s : State) : Served :=
  { state := s.withStatus { s.status with sticky := 0 }
    status := .ok
    data := sentU 2 s.status.sticky.toNat ++ sentU 2 s.status.mask.toNat ++ sentU 8 s.newestIndex }

/-- ATTN_MASK (10 R174). -/
def State.serveAttnMask (s : State) (events : Nat) : Served :=
  let m := eventSetOfField events
  { state := s.withStatus { s.status with mask := m }, status := .ok, data := sentU 2 m.toNat }

end Sys2Proof.Machine
end

