-- ==== Sys2Proof/Machine/ServiceLink.lean ====
section
/-! DEFINITION. The service link (09): the reply frame, the service of a request, the address test, the
buffer, the receiver and the link requests. -/

namespace Sys2Proof.Machine

/-! ### Replies -/

/-- 09 R159, R160: code, tag, status and the data. -/
def Reply.payload (r : Reply) : Bytes :=
  r.code :: r.tag :: BitVec.ofNat 8 r.status.code :: r.data

/-- A frame of the link: lead byte, address, LEN, payload and the CRC of R155, high byte first (09 R159,
11 section 11.1). -/
def linkFrame (address : Byte) (payload : Bytes) : Bytes :=
  let body := address :: BitVec.ofNat 8 payload.length :: payload
  0xD2 :: body ++ beBytes 2 (crcOf body).toNat

/-- 09 R159: the characters of a reply, first sent first. -/
def Reply.frame (r : Reply) : Bytes := linkFrame r.address r.payload

/-- 09 R159: the reply line's frame while a reply is being sent. -/
def State.replyFrame (s : State) : Option Bytes := s.link.inService.map (fun q => q.reply.frame)

/-- 09 R151: the bits of a character, first sent first: the start bit, 8 data bits least significant first,
the stop bit. -/
def characterBits (b : Byte) : List Bool := false :: (List.range 8).map b.getLsbD ++ [true]

/-- The reply line: the bits of the reply being sent, its characters back to back, none while the line is
released (09 R151, R159). When each bit is sent is timing (log entry 28). -/
def State.replyBits (s : State) : Option (List Bool) :=
  s.replyFrame.map (fun f => f.flatMap characterBits)

/-! ### Link requests -/

/-- 09 R151: the rate a divisor gives. -/
def rateOf (divisor : Nat) : Int := roundDiv Config.linkClock divisor

/-- 09 R151, R163: the divisor of a requested rate. -/
def divisorOf (rate : Nat) : Nat := (roundDiv Config.linkClock rate).toNat

/-- LINK_COUNTS (09 R162; layout: log entry 16). -/
def State.serveLinkCounts (s : State) : Served :=
  let l := s.link
  { state := s.withLink { l with counters := .zero }
    status := .ok
    data := sentU 2 l.counters.gapAborts ++ sentU 2 l.counters.lengthErrors
      ++ sentU 2 l.counters.crcErrors ++ sentU 2 l.counters.overruns
      ++ sentU 2 l.counters.characterErrors ++ sentOpt 1 (fun a : Byte => sentB a.toNat) l.station
      ++ sentB l.group.toNat ++ sentU 2 l.divisor ++ sentU 4 (rateOf l.divisor).toNat }

/-- 09 R163: the tests of LINK_SET. -/
def linkSetInRange (station : Option Byte) (rate group : Nat) : Bool :=
  decide (115200 ≤ rate) && decide (rate ≤ 3000000)
    && (group == 0
      || (decide (1 ≤ group) && decide (group ≤ 254)
        && !(station.map BitVec.toNat == some group)))

/-- LINK_SET (09 R163). -/
def State.serveLinkSet (s : State) (rate group : Nat) : Served :=
  if linkSetInRange s.link.station rate group then
    { state := s.withLink { s.link with group := BitVec.ofNat 8 group }
      status := .ok
      data := sentU 2 (divisorOf rate) ++ sentU 4 (rateOf (divisorOf rate)).toNat ++ sentB group
      after := .baud (divisorOf rate) }
  else s.refuse .range

/-- RESTART (09 R164). -/
def State.serveRestart (s : State) : Served := { state := s, status := .ok, after := .restart }

/-! ### Service -/

/-- 09 R158 step 3: the owner of a request serves it. -/
def State.serve (s : State) (r : Request) : Served :=
  match r with
  | .place f => s.servePlace f
  | .amend f => s.serveAmend f
  | .arm l => s.serveArm l
  | .disarm l => s.serveDisarm l
  | .retire l => s.serveRetire l
  | .drop l => s.serveDrop l
  | .clear l => s.serveClear l
  | .read l => s.serveRead l
  | .find x => s.serveFind x
  | .stepTable f => s.serveStep f
  | .classOp m o => s.serveClassOp m o
  | .tableSummary => s.serveSummary
  | .channelSet f => s.serveChannelSet f
  | .preset c p => s.servePreset c p
  | .readChannel c => s.serveReadChannel c
  | .fit c k => s.serveFit c k
  | .fitResult c => s.serveFitResult c
  | .fitSet t => s.serveFitSet t
  | .airSet r a d => s.serveAirSet r a d
  | .trackerSet t => s.serveTrackerSet t
  | .readAir => s.serveReadAir
  | .geometrySet f => s.serveGeometrySet f
  | .lineSet f => s.serveLineSet f
  | .passSet f => s.servePassSet f
  | .passOpen d => s.servePassOpen d
  | .passClose => s.servePassClose
  | .passAbort => s.servePassAbort
  | .readPass => s.serveReadPass
  | .reref l t => s.serveReref l t
  | .rerefCancel => s.serveRerefCancel
  | .rerefResult => s.serveRerefResult
  | .driveSet e n => s.serveDriveSet e n
  | .status => s.serveStatus
  | .attnMask e => s.serveAttnMask e
  | .linkCounts => s.serveLinkCounts
  | .linkSet r g => s.serveLinkSet r g
  | .restart => s.serveRestart

/-- The free-value counter moves on, so that a later use is a fresh value (log entry 7). -/
def State.fresh (s : State) : State := s.withFreeCount (s.freeCount + 1)

/-- The reply of a served request (09 R159, R160); it carries the station address in force when the
request was served (R165). -/
def Served.reply (v : Served) (code tag : Byte) : Reply :=
  { address := v.state.link.station.getD 0, code := code, tag := tag, status := v.status
    data := if v.status.taken then v.data else [] }

/-- 09 R163, R164: what a served request that is not answered still brings. -/
def State.afterService (s : State) : AfterReply → State
  | .nothing => s
  | .baud d => s.withLink { s.link with divisor := d }
  | .restart => s.withArrival { s.arrival with restart := true }

/-- 09 R159: a served own request stays in service while its reply is sent; any other leaves service at
once. -/
def Served.finish (v : Served) (own : Bool) (code tag : Byte) : State :=
  if own then
    (v.state.withLink
      { v.state.link with inService := some { reply := v.reply code tag, after := v.after } }).fresh
  else (v.state.afterService v.after).fresh

/-- 09 R158: a request of the catalogue enters service. -/
def State.serveRequest (s : State) (own : Bool) (tag : Byte) (r : Request) : State :=
  (s.serve r).finish own r.code tag

/-- 09 R158: a frame enters service. A one-byte payload has no tag to copy (log entry 8). -/
def State.serveFrame (s : State) (f : Frame) : State :=
  match decodePayload f.payload with
  | .request tag r => s.serveRequest f.own tag r
  | .unknown code tag =>
    (s.refuse .unknown).finish f.own code (tag.getD (Config.tagOfShortPayload s.freeCount))
  | .badLength code tag =>
    (s.refuse .length).finish f.own code (tag.getD (Config.tagOfShortPayload s.freeCount))

/-! ### Faults -/

/-- 09 R161: one of the link counters. -/
inductive LinkFault where
  | gap | length | crc | overrun | character
  deriving DecidableEq, Repr

/-- 09 R161: a counter counts a fault. -/
def LinkCounters.count (c : LinkCounters) : LinkFault → LinkCounters
  | .gap => { c with gapAborts := satInc Config.top16 c.gapAborts }
  | .length => { c with lengthErrors := satInc Config.top16 c.lengthErrors }
  | .crc => { c with crcErrors := satInc Config.top16 c.crcErrors }
  | .overrun => { c with overruns := satInc Config.top16 c.overruns }
  | .character => { c with characterErrors := satInc Config.top16 c.characterErrors }

/-- 09 R161: a fault is counted and LINK_FAULT raised. -/
def State.linkFault (s : State) (f : LinkFault) : State :=
  (s.withLink { s.link with counters := s.link.counters.count f }).raise .linkFault

/-! ### Address and buffer -/

/-- 09 R156: how a frame of an address is handled: none when it is not offered, else whether it is an
own frame. -/
def LinkUnit.addressed (l : LinkUnit) (address : Byte) : Option Bool :=
  if l.station = some address then some true
  else if address = 0xFF then some false
  else if address ≠ 0 ∧ address = l.group then some false
  else none

/-- 09 R157: a frame is offered to service. -/
def State.offer (s : State) (f : Frame) : State :=
  match s.link.inService with
  | none => s.serveFrame f
  | some _ =>
    match s.link.buffer with
    | none => s.withLink { s.link with buffer := some f }
    | some _ => s.linkFault .overrun

/-- 09 R156, R157: a frame whose CRC has agreed. -/
def State.takeFrame (s : State) (address : Byte) (payload : Bytes) : State :=
  match s.link.addressed address with
  | none => s
  | some own => s.offer { own := own, payload := payload }

/-- 09 R156 to R158: a whole request of the catalogue, whose CRC has agreed, reaches the address test (log
entry 14). It enters service as the frame that `encodePayload` spells; waiting in the buffer it is that
frame. -/
def State.takeRequest (s : State) (h : Header) (r : Request) : State :=
  match s.link.addressed h.address with
  | none => s
  | some own =>
    match s.link.inService with
    | none => s.serveRequest own h.tag r
    | some _ => s.offer { own := own, payload := encodePayload h.tag r }

/-! ### The receiver -/

/-- The state with the receiver replaced. -/
def State.withRx (s : State) (r : Receiver) : State := s.withLink { s.link with rx := r }

/-- 09 R155: a complete frame is checked by its CRC, then by its address. -/
def State.frameComplete (s : State) (r : Receiver) (low : Byte) : State :=
  let s := s.withRx .hunting
  if r.crc = r.high ++ low then s.takeFrame r.address r.payload else s.linkFault .crc

/-- 09 R152: a character with a good stop bit. -/
def State.character (s : State) (v : Byte) : State :=
  let r := s.link.rx
  match r.state with
  | .hunt =>
    if v = 0xD2 then s.withRx { Receiver.hunting with state := .address, crc := 0xFFFF } else s
  | .address => s.withRx { r with state := .length, address := v, crc := crcByte r.crc v }
  | .length =>
    if 1 ≤ v.toNat ∧ v.toNat ≤ 250 then
      s.withRx { r with state := .payload, len := v.toNat, crc := crcByte r.crc v }
    else (s.withRx .hunting).linkFault .length
  | .payload =>
    let p := r.payload ++ [v]
    s.withRx
      { r with
        state := if p.length < r.len then .payload else .crcHigh
        payload := p
        crc := crcByte r.crc v }
  | .crcHigh => s.withRx { r with state := .crcLow, high := v }
  | .crcLow => s.frameComplete r v

/-- 09 R154: a character with a low stop bit. -/
def State.characterError (s : State) : State :=
  if s.link.rx.state = .hunt then s else (s.withRx .hunting).linkFault .character

/-- 09 R153: the gap expires; none is measured in HUNT. -/
def State.gap (s : State) : State :=
  if s.link.rx.state = .hunt then s else (s.withRx .hunting).linkFault .gap

/-- 09 R159, R163, R164: the last stop bit of the reply has been sent. -/
def State.replyEnd (s : State) : State :=
  match s.link.inService with
  | none => s
  | some q =>
    let s := s.withLink { s.link with inService := none }
    match q.after with
    | .nothing => s
    | .baud d => s.withArrival { s.arrival with baud := some d }
    | .restart => s.withArrival { s.arrival with restart := true }

/-- 09 R166: the station address a strap setting gives. -/
def stationOf (straps : Nat) : Option Byte :=
  if 1 ≤ straps ∧ straps ≤ 254 then some (BitVec.ofNat 8 straps) else none

/-- 09 R167: the link after a restart, with the straps read again. -/
def LinkUnit.restart (l : LinkUnit) (straps : Nat) : LinkUnit :=
  { l with
    station := stationOf straps
    rx := .hunting
    buffer := none
    counters := .zero }

end Sys2Proof.Machine
end

