-- ==== Sys2Proof/Machine/Restart.lean ====
section
/-! DEFINITION. Power-on reset and restart of the whole part (09 section 9.7 and each block's reset
rules). -/

namespace Sys2Proof.Machine

/-- 01 R15, 02 R38: one channel at a restart. -/
def ChannelUnit.restart (u : ChannelUnit) : ChannelUnit := ⟨u.front.restart, u.counter.restart⟩

/-- 01 R15, 02 R38: the four channels at a restart. -/
def State.restartChannels (s : State) : State :=
  s.withChannels
    ⟨(s.chan .xl).restart, (s.chan .xr).restart, (s.chan .y).restart, (s.chan .t).restart⟩

/-- 06 R115: every record at a restart. -/
def State.restartTable (s : State) : State := s.withTable (s.table.map LineRecord.restart)

/-- 09 R167 and the table of 09 section 9.7: every block takes a restart; the straps are read again. The
sticky set becomes {RESTARTED} last (10 R176). -/
def State.restartAll (s : State) (straps : Nat) : State :=
  let s := s.fitRestart.passRestart.restartTable.rerefRestart.restartChannels
  let s := (s.withAir s.air.restart).withAxis { s.axis with window := [] }
  let s := (s.withLine s.line.restart).withDrive s.drive.restart
  let s := (s.withLink (s.link.restart straps)).withStraps straps
  ((s.withStatus { s.status with sticky := Event.restarted.single }).withArrival .idle).fresh

/-- 01 R14 and each block's initial state: power-on reset, with the strap setting read at its end (09
R166). The waiting commands, the RESTART line's level and the free-value counter are the model's and are
not reset (log entry 25). -/
def State.powerOn (s : State) (straps : Nat) : State :=
  let r := State.reset
  ((((r.withLink (r.link.restart straps)).withStraps straps).withRestartLine s.restartLine).withPending
    s.pending).withFreeCount (s.freeCount + 1)

end Sys2Proof.Machine
end

