-- ==== Sys2Proof/Machine/Arrival.lean ====
section
/-! DEFINITION. The events a sample arrival and a reply's end make due, each taken once, and the settling
of what is still due (log entries 2 and 4); then the sample arrival itself. -/

namespace Sys2Proof.Machine

/-! ### Due events -/

/-- AGE_TICK, if due (04 R66). -/
def State.takeAgeTick (s : State) : State :=
  if s.arrival.ageTick then (s.withArrival { s.arrival with ageTick := false }).ageStep else s

/-- FIT_BEGIN, if due (03 R43). -/
def State.takeFitBegin (s : State) : State :=
  if s.arrival.fitBegin then (s.withArrival { s.arrival with fitBegin := false }).fitStart else s

/-- FIT_COMPLETE, if due (03 R44). -/
def State.takeFitComplete (s : State) : State :=
  if s.arrival.fitComplete then (s.withArrival { s.arrival with fitComplete := false }).fitFinish
  else s

/-- RESET_INSTALL of a channel, if due (03 R51). -/
def State.takeResetInstall (s : State) (ch : Channel) : State :=
  if s.arrival.resetInstall.get ch then
    (s.withArrival
      { s.arrival with resetInstall := s.arrival.resetInstall.set ch false }).installPending ch
  else s

/-- RESET_INSTALL of every channel for which it is due. -/
def State.takeResetInstalls (s : State) : State :=
  (((s.takeResetInstall .xl).takeResetInstall .xr).takeResetInstall .y).takeResetInstall .t

/-- SLOT_FILL, if the slot is empty and a request waits (03 R42). -/
def State.takeSlotFill (s : State) : State := s.withFit s.fit.fillSlot

/-- FIT_TIMER_EXPIRY, if the timer is out and the fit has neither completed nor yet to begin (03 R45; log
entry 12). -/
def State.takeFitTimer (s : State) (lead : Nat) : State :=
  if s.fitTimerOut lead && !s.arrival.fitComplete then s.fitTimeout else s

/-- CHECK, if due (07 R116); the age has moved first (04 R59). -/
def State.takeCheck (s : State) : State :=
  if s.arrival.check then
    let s := s.takeAgeTick
    (s.withArrival { s.arrival with check := false }).runCheck
  else s

/-- REPORT_EXPIRY, if due (10 R169); the age has moved first (04 R59). -/
def State.takeReport (s : State) : State :=
  if s.arrival.report then
    let s := s.takeAgeTick
    (s.withArrival { s.arrival with report := false }).reportNow
  else s

/-- 05 R84: the capture in flight can be formed, or must be dropped. -/
def State.captureDue (s : State) : Bool :=
  match s.line.inFlight with
  | none => false
  | some b => (s.bracketEntries b).isSome || s.bracketLost b.k

/-- CAPTURE_FORMED, if due (05 R84). The age has moved first (04 R59). While reference control is WAITING
the capture may re-base XL and XR, so what belongs to the arrival's sample is taken before it: a fit that
begins on that sample sees the state its counter left (02 R28, 03 R43, R52), a pending reset is installed
(03 R51), and the check and the report see the counts of that sample (05 R78; log entry 4). -/
def State.takeCapture (s : State) : State :=
  if s.captureDue then
    let s := s.takeAgeTick
    (if s.waiting then s.takeFitBegin.takeResetInstalls.takeCheck.takeReport else s).completeCapture
  else s

/-- REREF_TIMER_EXPIRY, if due (08 R142). -/
def State.takeRerefExpiry (s : State) : State :=
  if s.arrival.rerefExpiry then
    (s.withArrival { s.arrival with rerefExpiry := false }).finishWait .failedTimeout none none
  else s

/-- BAUD_CHANGE, if due (09 R163). -/
def State.takeBaud (s : State) : State :=
  match s.arrival.baud with
  | none => s
  | some d =>
    (s.withLink { s.link with divisor := d }).withArrival { s.arrival with baud := none }

/-- RESTART_TAKEN, if due (09 R164). -/
def State.takeRestart (s : State) (straps : Nat) : State :=
  if s.arrival.restart then s.restartAll straps else s

/-- 09 R157: the buffer holds a frame and nothing is in service. -/
def State.bufferedDue (s : State) : Bool := s.link.buffer.isSome && s.link.inService.isNone

/-- BUFFERED_FRAME_SERVICE, if due (09 R157). -/
def State.takeBuffered (s : State) : State :=
  match s.link.inService, s.link.buffer with
  | none, some f => (s.withLink { s.link with buffer := none }).serveFrame f
  | _, _ => s

/-- What is still owed to the newest sample arrival, in the model's order (log entry 4). -/
def State.settleArrival (s : State) : State :=
  let s := s.takeAgeTick.takeFitBegin.takeFitComplete.takeResetInstalls.takeSlotFill
  let s := (s.takeFitTimer 0).takeSlotFill
  s.takeCheck.takeReport.takeCapture.takeRerefExpiry

/-- What the end of a reply still owes (log entries 4 and 30). -/
def State.settleLink (s : State) : State :=
  let s := s.takeBaud
  let s := (s.takeRestart s.straps).takeBuffered
  (s.takeRestart s.straps).takeSlotFill

/-- Every event that is due is taken before an event from outside (log entry 2). -/
def State.settle (s : State) : State := s.settleArrival.settleLink

/-! ### The sample arrival -/

/-- The same function applied to each channel's value. -/
def PerChannel.map {α β : Type} (f : α → β) (p : PerChannel α) : PerChannel β :=
  ⟨f p.xl, f p.xr, f p.y, f p.t⟩

/-- What one channel makes of an arrival: the channel after it, what the front end and counter hand on,
and whether the counter raises LOST and sends a trim request. -/
structure ChannelArrival where
  unit : ChannelUnit
  sample : Option ChannelSample
  lost : Bool
  trim : Bool
  deriving DecidableEq, Repr

/-- 01 R3, R11, 02 R18 to R25: an enabled channel handles its pair; an OFF channel takes no part. -/
def ChannelUnit.arrive (u : ChannelUnit) (p : Pair) : ChannelArrival :=
  match u.counter.state with
  | .off => ⟨u, none, false, false⟩
  | .dark | .unreferenced | .tracking | .coasting =>
    let fe := u.front.arrive p
    let h := u.counter.arrive fe.phase fe.amplitude
    let cs := u.front.workingPair p
    ⟨⟨fe, h.counter⟩, some ⟨cs.1, cs.2, fe.clipped, h.step⟩, h.lost, h.trim⟩

/-- 01 R3: the four channels handle their own pairs. -/
def State.channelArrivals (s : State) (a : SampleInput) : PerChannel ChannelArrival :=
  ⟨(s.chan .xl).arrive a.xl, (s.chan .xr).arrive a.xr, (s.chan .y).arrive a.y,
    (s.chan .t).arrive a.t⟩

/-- 02 R28, 04 R59: what a fringe counter has formed for the sample it has handled, as the tracker's values. -/
def Counter.trackerValues (c : Counter) : TrackerValues := ⟨c.p, c.epoch, c.state⟩

/-- 01 R2, R3, 02 R27, R28: sample k is the newest; the channels stand after it, and the tracker values of
the sample are those of T's counter; LOST events are raised. -/
def State.takeSample (s : State) (k : Nat) (r : PerChannel ChannelArrival) : State :=
  let s := ((s.withNewest (some k)).withChannels (r.map ChannelArrival.unit)).withArrival
    { Arrival.idle with
      samples := r.map ChannelArrival.sample, tracker := r.t.unit.counter.trackerValues }
  allChannels.foldl (fun t ch => t.raiseIf (r.get ch).lost (lostEvent ch)) s

/-- 03 R41: the trim requests of an arrival, in the order given (log entry 5). -/
def State.trimRequests (s : State) (order : List Channel) (r : PerChannel ChannelArrival) : State :=
  ((order ++ allChannels).filter (fun ch => (r.get ch).trim)).foldl State.trimRequest s

/-- 03 R41, R43, R51: the fit unit at an arrival. A fit that had begun observes the sample; a request that
stood in the slot without having begun makes FIT_BEGIN due, a pending reset RESET_INSTALL. -/
def State.fitArrive (s : State) (order : List Channel) (r : PerChannel ChannelArrival) : State :=
  let begun := s.fit.timer.isSome
  let due := s.fit.working.isSome && !begun
  let s := (s.withArrival
    { s.arrival with fitBegin := due, resetInstall := s.fit.pendingReset }).trimRequests order r
  if begun then s.fitObserve else s

/-- The continuity epochs of XL and XR. -/
def State.measuringEpochs (s : State) : BitVec 32 × BitVec 32 :=
  ((s.chan .xl).counter.epoch, (s.chan .xr).counter.epoch)

/-- 08 R145: an epoch of XL or XR that changed at this arrival moves the valid-from sample. -/
def State.epochsArrived (s : State) (old : BitVec 32 × BitVec 32) (k : Nat) : State :=
  if s.measuringEpochs = old then s else s.moveValidFrom k

/-- 07 R121: this arrival took XL or XR out of reference. -/
def referenceLost (before after : State) : Bool :=
  (before.referenced .xl && !after.referenced .xl) || (before.referenced .xr && !after.referenced .xr)

/-- A channel has become DARK. -/
def becameDark (before after : State) (ch : Channel) : Bool :=
  (after.chan ch).counter.state == .dark && !((before.chan ch).counter.state == .dark)

/-- 08 R143: this arrival took XL or XR to DARK. -/
def signalLost (before after : State) : Bool := becameDark before after .xl || becameDark before after .xr

/-- 07 R121, 08 R143: a pass abort or the ending of a wait at this arrival, and a capture completed by it
that comes first where `captureFirst` says so (log entry 5). At the arrival at which the wait timer is also
out, FAILED_SIGNAL ends the wait here and the due REREF_TIMER_EXPIRY then finds none: the spec does not
order the two endings (DESIGN CHOICE, unsafe, log entry 31). -/
def State.endings (s before : State) (captureFirst : Bool) : State :=
  let abort := s.passOpen && referenceLost before s
  let fail := s.waiting && signalLost before s
  let s1 := if captureFirst && (abort || fail) then s.takeCapture else s
  let s2 := if abort then s1.closeAborted .referenceLost else s1
  if fail then s2.finishWait .failedSignal none none else s2

/-- 07 R116, 08 R142: which of CHECK and REREF_TIMER_EXPIRY this arrival makes due. -/
def State.makeDue (s : State) (k : Nat) : State :=
  s.withArrival
    { s.arrival with
      check := k % 16 == 0
      rerefExpiry :=
        match s.reref.wait with
        | none => false
        | some w => w.deadline == k }

/-- 01 R3: the sample arrival of sample k at a part that owes nothing. -/
def State.arrive (s : State) (a : SampleInput) : State :=
  let k := s.arrivingIndex
  let r := s.channelArrivals a
  let s1 := ((s.takeSample k r).fitArrive a.trimOrder r).pushWindow k
  let s2 := (s1.dropSnapshot.updateDrift.countAge).epochsArrived s.measuringEpochs k
  (s2.makeDue k).countReport.endings s a.captureFirst

/-! ### Pulses -/

/-- 05 R82, R83: an edge of the microscope signal at time `e`. -/
def State.pulse (s : State) (edge : Edge) (e : Nat) : State :=
  if s.line.enable && edge == s.line.polarity then
    if s.line.crowds e then s.countCrowded else s.acceptPulse e
  else s

end Sys2Proof.Machine
end

