-- ==== Sys2Proof/WellFormed.lean ====
section
/-! DEFINITION. Which commands the outside world can give: every field of a request fits its width on
the wire (11 section 11.3), the strap setting is one byte, and an unknown request is none of the
catalogue. The meanings do not need it; statements about bytes do. -/

namespace Sys2Proof

/-- An unsigned value fits a field of `w` bytes (11 R177). -/
def fitsU (w n : Nat) : Bool :=
  decide (n < 256 ^ w)

/-- A signed value fits a field of `w` bytes (11 R177). -/
def fitsS (w : Nat) (i : Int) : Bool :=
  decide (-((256 ^ w / 2 : Nat) : Int) ≤ i) && decide (i < ((256 ^ w / 2 : Nat) : Int))

/-- An optional value, where carried, satisfies a check. -/
def optFits {α : Type} (ok : α → Bool) : Option α → Bool
  | none => true
  | some v => ok v

/-- A request that a frame can carry. -/
def Request.wellFormed : Request → Bool
  | .place f => fitsS 4 f.line && fitsS 6 f.nominal && fitsU 4 f.halfWidth && fitsU 1 f.cls
      && fitsU 1 f.targetFwd && fitsU 1 f.targetRev && fitsU 1 f.datum && fitsU 1 f.initial
  | .amend f => fitsS 4 f.line && optFits (fitsS 6) f.nominal && optFits (fitsU 4) f.halfWidth
      && optFits (fitsU 1) f.cls && optFits (fitsU 1) f.targetFwd && optFits (fitsU 1) f.targetRev
      && optFits (fitsU 1) f.datum
  | .arm l => fitsS 4 l
  | .disarm l => fitsS 4 l
  | .retire l => fitsS 4 l
  | .drop l => fitsS 4 l
  | .clear l => fitsS 4 l
  | .read l => fitsS 4 l
  | .find x => fitsS 6 x
  | .stepTable f => fitsU 1 f.mode && fitsS 4 f.line && fitsU 1 f.mask
  | .classOp m o => fitsU 1 m && fitsU 1 o
  | .tableSummary => true
  | .channelSet f => fitsU 1 f.channel && fitsU 1 f.enable && fitsU 1 f.source && fitsU 1 f.sense
      && fitsS 2 f.synthStep && fitsU 2 f.floor && fitsU 2 f.coastLimit && fitsU 1 f.trimInterval
  | .preset c p => fitsU 1 c && fitsS 6 p
  | .readChannel c => fitsU 1 c
  | .fit c k => fitsU 1 c && fitsU 1 k
  | .fitResult c => fitsU 1 c
  | .fitSet t => fitsU 4 t
  | .airSet r a d => fitsS 4 r && fitsU 2 a && fitsU 2 d
  | .trackerSet t => fitsU 4 t
  | .readAir => true
  | .geometrySet f => fitsU 4 f.wVac && fitsU 4 f.dXL && fitsU 4 f.dXR && fitsU 4 f.dY
      && fitsU 4 f.f && fitsU 4 f.b
  | .lineSet f => fitsU 1 f.enable && fitsU 1 f.polarity && fitsU 4 f.latency && fitsU 4 f.spacing
  | .passSet f => fitsU 1 f.mode && fitsU 4 f.startThr && fitsU 4 f.stopThr && fitsU 2 f.settle
  | .passOpen d => fitsU 1 d
  | .passClose => true
  | .passAbort => true
  | .readPass => true
  | .reref l t => fitsS 4 l && fitsU 2 t
  | .rerefCancel => true
  | .rerefResult => true
  | .driveSet e n => fitsU 1 e && fitsU 4 n
  | .status => true
  | .attnMask e => fitsU 2 e
  | .linkCounts => true
  | .linkSet r g => fitsU 4 r && fitsU 1 g
  | .restart => true

/-- A payload that a frame can carry (09 R152: LEN 1..250) and that is no request of the catalogue. -/
def unknownPayload (p : Bytes) : Bool :=
  decide (1 ≤ p.length) && decide (p.length ≤ 250)
    && match decodePayload p with
      | .request _ _ => false
      | .unknown _ _ => true
      | .badLength _ _ => true

/-- A command the outside world can give. The FIT row stands for LONG and SHORT (and for a kind that
names no choice); RESET has a row of its own. -/
def Instr.wellFormed (i : Instr) : Bool :=
  match i with
  | .powerOnReset straps => fitsU 1 straps
  | .restartLine _ straps => fitsU 1 straps
  | .restartTaken straps => fitsU 1 straps
  | .unknownRequest _ p => unknownPayload p
  | .fit _ c k => fitsU 1 c && fitsU 1 k && decide (k ≠ 2)
  | i =>
    match i.request with
    | some (_, r) => r.wellFormed
    | none => true

end Sys2Proof
end

