-- ==== Sys2Proof/Machine/Events.lean ====
section
/-! DEFINITION. Meanings of the commands that are not requests: resets and pins, sample arrivals, the
part's own events, and the link's events. An event of the part's own that is not due has no effect (log
entry 3); an event from outside finds everything due already taken (log entry 2). -/

namespace Sys2Proof.Machine

/-- What every meaning answers: a next state; the part never stops (log entry 29). -/
abbrev Answer := Host.Outcome State Fault Refusal

/-! ### Resets and pins -/

/-- POWER_ON_RESET (01 R14, 09 R166). -/
def execPowerOnReset (straps : Nat) (s : State) : Answer := .next (s.powerOn straps)

/-- RESTART_LINE (09 R165): only the transition from inactive to active restarts the part. -/
def execRestartLine (active : Bool) (straps : Nat) (s : State) : Answer :=
  let s := s.settle
  let s' := if active && !s.restartLine then s.restartAll straps else s
  .next (s'.withRestartLine active)

/-- PULSE_ARRIVAL (05 R82 to R84). -/
def execPulseArrival (edge : Edge) (time : Nat) (s : State) : Answer := .next (s.settle.pulse edge time)

/-! ### Samples and the part's own events -/

/-- SAMPLE_ARRIVAL (01 R3). -/
def execSampleArrival (a : SampleInput) (s : State) : Answer := .next (s.settle.arrive a)

/-- AGE_TICK (04 R66). -/
def execAgeTick (s : State) : Answer := .next s.takeAgeTick

/-- CHECK (07 R116). -/
def execCheck (s : State) : Answer := .next s.takeCheck

/-- CAPTURE_FORMED (05 R84 to R89). -/
def execCaptureFormed (s : State) : Answer := .next s.takeCapture

/-- FIT_BEGIN (03 R43). -/
def execFitBegin (s : State) : Answer := .next s.takeFitBegin

/-- SLOT_FILL (03 R42). -/
def execSlotFill (s : State) : Answer := .next s.takeSlotFill

/-- FIT_COMPLETE (03 R44). -/
def execFitComplete (s : State) : Answer := .next s.takeFitComplete

/-- FIT_TIMER_EXPIRY (03 R45): the timer's instant lies before the arrival of the sample of that time,
so the expiry may come while the sample before it is the newest (log entry 12). -/
def execFitTimerExpiry (s : State) : Answer := .next (s.takeFitTimer 1)

/-- RESET_INSTALL (03 R51). -/
def execResetInstall (ch : Channel) (s : State) : Answer := .next (s.takeResetInstall ch)

/-- REREF_TIMER_EXPIRY (08 R142). -/
def execRerefTimerExpiry (s : State) : Answer := .next s.takeRerefExpiry

/-- REPORT_EXPIRY (10 R169, R170). -/
def execReportExpiry (s : State) : Answer := .next s.takeReport

/-- DRIVE_FRAME_END (10 R171). -/
def execDriveFrameEnd (s : State) : Answer :=
  let s := s.settle
  .next (s.withDrive { s.drive with sending := none })

/-! ### The link -/

/-- RECEIVE_CHARACTER (09 R152, R154 to R157). -/
def execReceiveCharacter (value : Byte) (stopBit : Bool) (s : State) : Answer :=
  let s := s.settle
  .next (if stopBit then s.character value else s.characterError)

/-- GAP_EXPIRY (09 R153). -/
def execGapExpiry (s : State) : Answer := .next s.settle.gap

/-- BUFFERED_FRAME_SERVICE (09 R157): what is due before the service is taken first (log entry 30). -/
def execBufferedFrameService (s : State) : Answer :=
  if s.bufferedDue then
    let s := s.settleArrival.takeBaud
    .next (s.takeRestart s.straps).takeBuffered
  else .next s

/-- REPLY_SENT (09 R159). -/
def execReplySent (s : State) : Answer := .next s.settle.replyEnd

/-- BAUD_CHANGE (09 R163). -/
def execBaudChange (s : State) : Answer := .next s.takeBaud

/-- RESTART_TAKEN (09 R164, R167), with the strap setting it reads. -/
def execRestartTaken (straps : Nat) (s : State) : Answer :=
  if s.arrival.restart then .next (s.settleArrival.takeBaud.takeRestart straps) else .next s

/-- UNKNOWN_REQUEST (09 R158): a frame whose CRC has agreed and whose payload is no request of the
catalogue (log entry 15). -/
def execUnknownRequest (address : Byte) (payload : Bytes) (s : State) : Answer :=
  if unknownPayload payload then .next (s.settle.takeFrame address payload) else .next s

end Sys2Proof.Machine
end

