-- ==== Sys2Proof/Machine/RequestCommands.lean ====
section
/-! DEFINITION. Meanings of the request commands: each is one whole request frame whose CRC has agreed
and which reaches the address test (09 R156; log entry 14). -/

namespace Sys2Proof.Machine

/-- 09 R156 to R159: a request frame reaches the link; everything due has been taken (log entry 2). -/
def State.request (s : State) (h : Header) (r : Request) : State := s.settle.takeRequest h r

/-- PLACE (06 R97, R98). -/
def execPlace (h : Header) (f : PlaceFields) (s : State) : Answer := .next (s.request h (.place f))

/-- AMEND (06 R100, R101). -/
def execAmend (h : Header) (f : AmendFields) (s : State) : Answer := .next (s.request h (.amend f))

/-- ARM (06 R102). -/
def execArm (h : Header) (line : Int) (s : State) : Answer := .next (s.request h (.arm line))

/-- DISARM (06 R103). -/
def execDisarm (h : Header) (line : Int) (s : State) : Answer := .next (s.request h (.disarm line))

/-- RETIRE (06 R104). -/
def execRetire (h : Header) (line : Int) (s : State) : Answer := .next (s.request h (.retire line))

/-- DROP (06 R99). -/
def execDrop (h : Header) (line : Int) (s : State) : Answer := .next (s.request h (.drop line))

/-- CLEAR (06 R105). -/
def execClear (h : Header) (line : Int) (s : State) : Answer := .next (s.request h (.clear line))

/-- READ (06 R109). -/
def execRead (h : Header) (line : Int) (s : State) : Answer := .next (s.request h (.read line))

/-- FIND (06 R110). -/
def execFind (h : Header) (position : Int) (s : State) : Answer :=
  .next (s.request h (.find position))

/-- STEP (06 R111). -/
def execStepTable (h : Header) (f : StepFields) (s : State) : Answer :=
  .next (s.request h (.stepTable f))

/-- CLASS_OP_ARM (06 R113). -/
def execClassOpArm (h : Header) (mask : Nat) (s : State) : Answer :=
  .next (s.request h (.classOp mask 0))

/-- CLASS_OP_DISARM (06 R113). -/
def execClassOpDisarm (h : Header) (mask : Nat) (s : State) : Answer :=
  .next (s.request h (.classOp mask 1))

/-- CLASS_OP_RETIRE (06 R113). -/
def execClassOpRetire (h : Header) (mask : Nat) (s : State) : Answer :=
  .next (s.request h (.classOp mask 2))

/-- CLASS_OP_DROP (06 R113). -/
def execClassOpDrop (h : Header) (mask : Nat) (s : State) : Answer :=
  .next (s.request h (.classOp mask 3))

/-- CLASS_OP_CLEAR (06 R113). -/
def execClassOpClear (h : Header) (mask : Nat) (s : State) : Answer :=
  .next (s.request h (.classOp mask 4))

/-- TABLE_SUMMARY (06 R112). -/
def execTableSummary (h : Header) (s : State) : Answer := .next (s.request h .tableSummary)

/-- CHANNEL_SET (02 R30 to R32, 01 R12, R13). -/
def execChannelSet (h : Header) (f : ChannelFields) (s : State) : Answer :=
  .next (s.request h (.channelSet f))

/-- PRESET (02 R33). -/
def execPreset (h : Header) (channel : Nat) (p : Int) (s : State) : Answer :=
  .next (s.request h (.preset channel p))

/-- READ_CHANNEL (02 R36). -/
def execReadChannel (h : Header) (channel : Nat) (s : State) : Answer :=
  .next (s.request h (.readChannel channel))

/-- FIT (03 R40). -/
def execFit (h : Header) (channel : Nat) (kind : Nat) (s : State) : Answer :=
  .next (s.request h (.fit channel kind))

/-- FIT_RESET (03 R50, R51). -/
def execFitReset (h : Header) (channel : Nat) (s : State) : Answer :=
  .next (s.request h (.fit channel 2))

/-- FIT_RESULT (03 R55). -/
def execFitResult (h : Header) (channel : Nat) (s : State) : Answer :=
  .next (s.request h (.fitResult channel))

/-- FIT_SET (03 R46). -/
def execFitSet (h : Header) (timeoutMs : Nat) (s : State) : Answer :=
  .next (s.request h (.fitSet timeoutMs))

/-- AIR_SET (04 R68). -/
def execAirSet (h : Header) (rHost : Int) (ageLimit : Nat) (driftLimit : Nat) (s : State) : Answer :=
  .next (s.request h (.airSet rHost ageLimit driftLimit))

/-- TRACKER_SET (04 R69). -/
def execTrackerSet (h : Header) (tPath : Nat) (s : State) : Answer :=
  .next (s.request h (.trackerSet tPath))

/-- READ_AIR (04 R72). -/
def execReadAir (h : Header) (s : State) : Answer := .next (s.request h .readAir)

/-- GEOMETRY_SET (04 R70, R71). -/
def execGeometrySet (h : Header) (f : GeometryFields) (s : State) : Answer :=
  .next (s.request h (.geometrySet f))

/-- LINE_SET (05 R81). -/
def execLineSet (h : Header) (f : LineFields) (s : State) : Answer :=
  .next (s.request h (.lineSet f))

/-- PASS_SET (07 R125). -/
def execPassSet (h : Header) (f : PassFields) (s : State) : Answer :=
  .next (s.request h (.passSet f))

/-- PASS_OPEN (07 R126). -/
def execPassOpen (h : Header) (direction : Nat) (s : State) : Answer :=
  .next (s.request h (.passOpen direction))

/-- PASS_CLOSE (07 R127). -/
def execPassClose (h : Header) (s : State) : Answer := .next (s.request h .passClose)

/-- PASS_ABORT (07 R128). -/
def execPassAbort (h : Header) (s : State) : Answer := .next (s.request h .passAbort)

/-- READ_PASS (07 R129). -/
def execReadPass (h : Header) (s : State) : Answer := .next (s.request h .readPass)

/-- REREF (08 R139, R140). -/
def execReref (h : Header) (line : Int) (timeoutS : Nat) (s : State) : Answer :=
  .next (s.request h (.reref line timeoutS))

/-- REREF_CANCEL (08 R144). -/
def execRerefCancel (h : Header) (s : State) : Answer := .next (s.request h .rerefCancel)

/-- REREF_RESULT (08 R149). -/
def execRerefResult (h : Header) (s : State) : Answer := .next (s.request h .rerefResult)

/-- DRIVE_SET (10 R168). -/
def execDriveSet (h : Header) (enable : Nat) (period : Nat) (s : State) : Answer :=
  .next (s.request h (.driveSet enable period))

/-- STATUS (10 R175). -/
def execStatus (h : Header) (s : State) : Answer := .next (s.request h .status)

/-- ATTN_MASK (10 R174). -/
def execAttnMask (h : Header) (events : Nat) (s : State) : Answer :=
  .next (s.request h (.attnMask events))

/-- LINK_COUNTS (09 R162). -/
def execLinkCounts (h : Header) (s : State) : Answer := .next (s.request h .linkCounts)

/-- LINK_SET (09 R163). -/
def execLinkSet (h : Header) (rate : Nat) (group : Nat) (s : State) : Answer :=
  .next (s.request h (.linkSet rate group))

/-- RESTART (09 R164). -/
def execRestart (h : Header) (s : State) : Answer := .next (s.request h .restart)

end Sys2Proof.Machine
end

