-- ==== Sys2Proof/Machine/Dispatch.lean ====
section
/-! DEFINITION. The command's effect on everything but the queue: one arm per constructor of Instr. -/

namespace Sys2Proof.Machine

def exec (i : Instr) (s : State) : Host.Outcome State Fault Refusal :=
  match i with
  | .powerOnReset straps => Sys2Proof.Machine.execPowerOnReset straps s
  | .restartLine active straps => Sys2Proof.Machine.execRestartLine active straps s
  | .sampleArrival a => Sys2Proof.Machine.execSampleArrival a s
  | .ageTick => Sys2Proof.Machine.execAgeTick s
  | .check => Sys2Proof.Machine.execCheck s
  | .pulseArrival edge time => Sys2Proof.Machine.execPulseArrival edge time s
  | .captureFormed => Sys2Proof.Machine.execCaptureFormed s
  | .fitBegin => Sys2Proof.Machine.execFitBegin s
  | .slotFill => Sys2Proof.Machine.execSlotFill s
  | .fitComplete => Sys2Proof.Machine.execFitComplete s
  | .fitTimerExpiry => Sys2Proof.Machine.execFitTimerExpiry s
  | .resetInstall ch => Sys2Proof.Machine.execResetInstall ch s
  | .rerefTimerExpiry => Sys2Proof.Machine.execRerefTimerExpiry s
  | .reportExpiry => Sys2Proof.Machine.execReportExpiry s
  | .driveFrameEnd => Sys2Proof.Machine.execDriveFrameEnd s
  | .receiveCharacter value stopBit => Sys2Proof.Machine.execReceiveCharacter value stopBit s
  | .gapExpiry => Sys2Proof.Machine.execGapExpiry s
  | .bufferedFrameService => Sys2Proof.Machine.execBufferedFrameService s
  | .replySent => Sys2Proof.Machine.execReplySent s
  | .baudChange => Sys2Proof.Machine.execBaudChange s
  | .restartTaken straps => Sys2Proof.Machine.execRestartTaken straps s
  | .unknownRequest address payload => Sys2Proof.Machine.execUnknownRequest address payload s
  | .place h f => Sys2Proof.Machine.execPlace h f s
  | .amend h f => Sys2Proof.Machine.execAmend h f s
  | .arm h line => Sys2Proof.Machine.execArm h line s
  | .disarm h line => Sys2Proof.Machine.execDisarm h line s
  | .retire h line => Sys2Proof.Machine.execRetire h line s
  | .drop h line => Sys2Proof.Machine.execDrop h line s
  | .clear h line => Sys2Proof.Machine.execClear h line s
  | .read h line => Sys2Proof.Machine.execRead h line s
  | .find h position => Sys2Proof.Machine.execFind h position s
  | .stepTable h f => Sys2Proof.Machine.execStepTable h f s
  | .classOpArm h mask => Sys2Proof.Machine.execClassOpArm h mask s
  | .classOpDisarm h mask => Sys2Proof.Machine.execClassOpDisarm h mask s
  | .classOpRetire h mask => Sys2Proof.Machine.execClassOpRetire h mask s
  | .classOpDrop h mask => Sys2Proof.Machine.execClassOpDrop h mask s
  | .classOpClear h mask => Sys2Proof.Machine.execClassOpClear h mask s
  | .tableSummary h => Sys2Proof.Machine.execTableSummary h s
  | .channelSet h f => Sys2Proof.Machine.execChannelSet h f s
  | .preset h channel p => Sys2Proof.Machine.execPreset h channel p s
  | .readChannel h channel => Sys2Proof.Machine.execReadChannel h channel s
  | .fit h channel kind => Sys2Proof.Machine.execFit h channel kind s
  | .fitReset h channel => Sys2Proof.Machine.execFitReset h channel s
  | .fitResult h channel => Sys2Proof.Machine.execFitResult h channel s
  | .fitSet h timeoutMs => Sys2Proof.Machine.execFitSet h timeoutMs s
  | .airSet h rHost ageLimit driftLimit => Sys2Proof.Machine.execAirSet h rHost ageLimit driftLimit s
  | .trackerSet h tPath => Sys2Proof.Machine.execTrackerSet h tPath s
  | .readAir h => Sys2Proof.Machine.execReadAir h s
  | .geometrySet h f => Sys2Proof.Machine.execGeometrySet h f s
  | .lineSet h f => Sys2Proof.Machine.execLineSet h f s
  | .passSet h f => Sys2Proof.Machine.execPassSet h f s
  | .passOpen h direction => Sys2Proof.Machine.execPassOpen h direction s
  | .passClose h => Sys2Proof.Machine.execPassClose h s
  | .passAbort h => Sys2Proof.Machine.execPassAbort h s
  | .readPass h => Sys2Proof.Machine.execReadPass h s
  | .reref h line timeoutS => Sys2Proof.Machine.execReref h line timeoutS s
  | .rerefCancel h => Sys2Proof.Machine.execRerefCancel h s
  | .rerefResult h => Sys2Proof.Machine.execRerefResult h s
  | .driveSet h enable period => Sys2Proof.Machine.execDriveSet h enable period s
  | .status h => Sys2Proof.Machine.execStatus h s
  | .attnMask h events => Sys2Proof.Machine.execAttnMask h events s
  | .linkCounts h => Sys2Proof.Machine.execLinkCounts h s
  | .linkSet h rate group => Sys2Proof.Machine.execLinkSet h rate group s
  | .restart h => Sys2Proof.Machine.execRestart h s

end Sys2Proof.Machine
end

