-- ==== Sys2Proof/Safety.lean ====
section
/-! DEFINITION. What a sound state of the part is: nothing due, and the properties the spec promises of
every state. -/

namespace Sys2Proof.Machine

/-! ### Nothing due -/

/-- Nothing is owed to the newest arrival, to the fit timer or to the line input. -/
abbrev State.QuietArrival (s : State) : Prop :=
  s.arrival.ageTick = false ∧ s.arrival.fitBegin = false ∧ s.arrival.fitComplete = false
    ∧ s.arrival.resetInstall = .all false ∧ s.arrival.check = false ∧ s.arrival.report = false
    ∧ s.arrival.rerefExpiry = false ∧ (s.fit.working.isSome = true ∨ s.fit.queue = [])
    ∧ s.fitTimerOut 0 = false ∧ s.captureDue = false

/-- No event of the part's own is due: every effect of the newest arrival and of the last reply has been
taken (log entry 2). -/
abbrev State.Quiet (s : State) : Prop :=
  s.QuietArrival ∧ s.arrival.baud = none ∧ s.arrival.restart = false ∧ s.bufferedDue = false

/-- An own request whose header is `h` would be served now and answered: nothing is due, the address is the
station's, and no request is in service. -/
abbrev State.Ready (s : State) (h : Header) : Prop :=
  s.Quiet ∧ s.link.station = some h.address ∧ s.link.inService = none

/-! ### Ranges -/

/-- 01 R3: the codes an ADC gives. -/
abbrev isCode (x : Int) : Prop := -2048 ≤ x ∧ x ≤ 2047

/-- 01 R6: the ranges of an ellipse parameter set. -/
abbrev EllipseSet.inRange (e : EllipseSet) : Prop :=
  isCode e.offsetC ∧ isCode e.offsetS ∧ (16384 ≤ e.g ∧ e.g ≤ 65535) ∧ (-8192 ≤ e.sigma ∧ e.sigma ≤ 8192)

/-- 03 R43: extremes of codes. -/
abbrev Extremes.inCodes (e : Extremes) : Prop :=
  isCode e.maxC ∧ isCode e.minC ∧ isCode e.maxS ∧ isCode e.minS ∧ isCode e.sAtMaxC

/-- 01 R6: every channel's set is in range; what the fit unit collects and is handed are codes. -/
def State.EllipsesInRange (s : State) : Prop :=
  (∀ ch, (s.chan ch).front.params.inRange)
    ∧ (∀ e, s.fit.acc.extremes = some e → e.inCodes)
    ∧ (∀ ch m, s.arrival.samples.get ch = some m → isCode m.c ∧ isCode m.s)

/-- 02 section 2.1, R17: the ranges of a fringe counter. -/
abbrev Counter.inRange (c : Counter) : Prop :=
  (-140737488355327 ≤ c.p ∧ c.p ≤ 140737488355327) ∧ c.lastPhase ≤ 1023 ∧ c.lastStep.natAbs ≤ 2047
    ∧ c.acquireRun ≤ 64 ∧ c.coastRun ≤ 1000 ∧ (0 ≤ c.r0 ∧ c.r0 ≤ 1000000)
    ∧ (64 ≤ c.floor ∧ c.floor ≤ 1800) ∧ (1 ≤ c.coastLimit ∧ c.coastLimit ≤ 1000)

/-- Every fringe counter is in range. -/
def State.CountersInRange (s : State) : Prop := ∀ ch, (s.chan ch).counter.inRange

/-! ### The fit unit -/

/-- The channels that have a request in the slot, in the queue or as a pending reset. -/
def FitUnit.claims (f : FitUnit) : List Channel :=
  (f.working.toList ++ f.queue).map FitRequest.channel ++ allChannels.filter f.pendingReset.get

/-- 03 R39, R42: at most one request of each channel, at most three waiting; while the slot is empty the
accumulator is empty and the timer not running. -/
def State.FitUnitSound (s : State) : Prop :=
  s.fit.claims.Nodup ∧ s.fit.queue.length ≤ 3
    ∧ (s.fit.working = none → s.fit.timer = none ∧ s.fit.acc = .empty)

/-! ### Air and window -/

/-- 04 R66: the age does not pass its top, and the stale condition stands exactly at it. -/
def State.AgeSound (s : State) : Prop :=
  s.air.ageMs ≤ s.air.ageLimit * 1000 + 1 ∧ (s.air.stale = true ↔ s.air.ageMs = s.air.ageLimit * 1000 + 1)
    ∧ s.air.ageSamples < 10000

/-- Each entry's index is one above that of the entry behind it, in the 64-bit count. -/
def consecutive : List WindowEntry → Prop
  | [] => True
  | [_] => True
  | a :: b :: rest => a.index = nextIndex b.index ∧ consecutive (b :: rest)

/-- 05 R79: at most 64 entries, consecutive, the newest sample's first. -/
def State.WindowSound (s : State) : Prop :=
  s.axis.window.length ≤ 64 ∧ consecutive s.axis.window
    ∧ ∀ e, s.axis.window.head? = some e → s.newest = some e.index

/-! ### The line table -/

/-- 06 R92: a record stands wholly before another: line number, nominal and window. -/
abbrev LineRecord.before (a b : LineRecord) : Prop :=
  a.line < b.line ∧ a.nominal < b.nominal
    ∧ a.nominal + (a.halfWidth : Int) < b.nominal - (b.halfWidth : Int)

/-- 06 R92: at most 2048 records, in ascending order of line number, of nominal and of window, the windows
disjoint, touching excluded. -/
def State.TableOrdered (s : State) : Prop :=
  s.table.length ≤ 2048 ∧ s.table.Pairwise LineRecord.before

/-- 06 R94, R96: a record holds a pending capture exactly when it is TAKEN; while no pass is open no record
is TAKEN or MISSED. -/
def State.PendingSound (s : State) : Prop :=
  (∀ r ∈ s.table, r.pending.isSome = true ↔ r.state = .taken)
    ∧ (s.pass.context = none → ∀ r ∈ s.table, r.state ≠ .taken ∧ r.state ≠ .missed)

/-- 06 R93: what every present half keeps. -/
def Half.sound (h : Half) : Prop :=
  1 ≤ h.n ∧ h.n ≤ 65535 ∧ h.minX ≤ h.lastX ∧ h.lastX ≤ h.maxX
    ∧ h.n * h.minX ≤ h.sumX ∧ h.sumX ≤ h.n * h.maxX ∧ h.ny ≤ h.n ∧ h.flagged ≤ h.n

/-- Every present half of every record is sound. -/
def State.HalvesSound (s : State) : Prop :=
  ∀ r ∈ s.table, (∀ h, r.fwd = some h → h.sound) ∧ (∀ h, r.rev = some h → h.sound)

/-! ### Passes and re-references -/

/-- 07 R120: a pass is open only while XL and XR are both TRACKING or COASTING and no re-reference is
WAITING. -/
def State.PassReferenced (s : State) : Prop :=
  s.pass.context ≠ none → s.referenced .xl = true ∧ s.referenced .xr = true ∧ s.reref.wait = none

/-- 08 R139, R143: while reference control waits, XL and XR are neither OFF nor DARK. -/
def State.WaitHasSignal (s : State) : Prop :=
  s.reref.wait ≠ none →
    ∀ ch, ch = .xl ∨ ch = .xr →
      (s.chan ch).counter.state ≠ .off ∧ (s.chan ch).counter.state ≠ .dark

/-- 07 R136: while a pass is open, the records TAKEN are at most its taken and late counts together. -/
def State.TakenBounded (s : State) : Prop :=
  ∀ c, s.pass.context = some c →
    (s.table.filter (fun r => r.state = .taken)).length ≤ c.counters.taken + c.counters.late

/-! ### The answered request -/

/-- The part `base` once it has an own request with header `h` in service: the reply with this code, status
and data is being sent, and the free-value counter has moved on. -/
def State.answered (base : State) (h : Header) (code : Byte) (st : Status) (data : Bytes)
    (after : AfterReply := .nothing) : State :=
  (base.withLink
    { base.link with
      inService := some
        { reply := { address := h.address, code := code, tag := h.tag, status := st, data := data }
          after := after } }).withFreeCount (base.freeCount + 1)

/-- The station and group of 09 R156 as hypotheses: a frame to this address is offered to service. -/
abbrev State.Addressed (s : State) (a : Byte) : Prop :=
  s.link.station = some a ∨ a = 0xFF ∨ (a ≠ 0 ∧ a = s.link.group)

/-- 07 R131: what crossing marks make of a record. -/
abbrev crossingMark (d : Direction) (xStart xFar : Int) (r : LineRecord) : LineRecord :=
  if r.state = .armed
      ∧ ((d = .fwd ∧ xStart ≤ r.nominal - (r.halfWidth : Int)
          ∧ r.nominal + (r.halfWidth : Int) < xFar)
        ∨ (d = .rev ∧ r.nominal + (r.halfWidth : Int) ≤ xStart
          ∧ xFar < r.nominal - (r.halfWidth : Int))) then
    { r with state := .missed }
  else r

/-- 06 R95: at least one target is non-zero, and each non-zero target is reached by its half. -/
def LineRecord.TargetsReached (r : LineRecord) : Prop :=
  (r.targetFwd ≠ 0 ∨ r.targetRev ≠ 0)
    ∧ (r.targetFwd ≠ 0 → ∃ h, r.fwd = some h ∧ r.targetFwd ≤ h.n)
    ∧ (r.targetRev ≠ 0 → ∃ h, r.rev = some h ∧ r.targetRev ≤ h.n)

/-- 07 R122: the records whose pending capture a commit of the table merges. -/
abbrev committedCount (t : List LineRecord) : Nat := (t.filter LineRecord.commits).length

/-! ### Reset and restart values -/

/-- The values the spec's reset tables give, but for the station address (01 R14, 02 R37, 03 R56, 04 R73,
05 R75, R80, R91, 06 R114, 07 R137, 08 R150, 09 R166, 10 R172, R176). -/
def State.HasResetValues (t : State) : Prop :=
  t.newest = none
    ∧ (∀ ch, t.chan ch =
        { front := ⟨⟨0, 0, 32768, 0⟩, .detector, .normal, 0, 0, 0, 0, 0, false⟩
          counter :=
            { state := .off, p := 0, lastPhase := 0, lastStep := 0, acquireRun := 0, coastRun := 0
              epoch := 0, r0 := 0, floor := 400, coastLimit := 50, trimInterval := 0
              trimTravel := 0 } })
    ∧ (t.fit.working = none ∧ t.fit.queue = [] ∧ (∀ ch, t.fit.pendingReset.get ch = false)
        ∧ t.fit.timeoutMs = 5000 ∧ t.fit.timer = none ∧ t.fit.acc = ⟨0, 0, 0, none⟩
        ∧ ∀ ch, t.fit.result.get ch = none)
    ∧ (t.air.rHost = 0 ∧ t.air.ageLimit = 60 ∧ t.air.driftLimit = 200 ∧ t.air.ageMs = 60001
        ∧ t.air.stale = true ∧ t.air.snapshot = none ∧ t.air.drift = false ∧ t.air.tPath = 0
        ∧ t.air.wVac = 2592079872 ∧ t.air.dXL = 0 ∧ t.air.dXR = 0 ∧ t.air.dY = 0)
    ∧ t.axis = ⟨32768, 100000, []⟩
    ∧ t.line = ⟨false, .rising, 0, 2000, none, none⟩
    ∧ t.table = []
    ∧ (t.pass.context = none ∧ t.pass.mode = .auto ∧ t.pass.startThr = 800 ∧ t.pass.stopThr = 160
        ∧ t.pass.settle = 625 ∧ t.pass.prevX = none ∧ t.pass.number = 0 ∧ t.pass.idleStrays = 0
        ∧ t.pass.last = none)
    ∧ (t.reref.wait = none ∧ t.reref.result = none)
    ∧ (t.link.group = 0 ∧ t.link.divisor = 417 ∧ t.link.rx.state = .hunt ∧ t.link.inService = none
        ∧ t.link.buffer = none ∧ t.hold = false ∧ t.link.counters = ⟨0, 0, 0, 0, 0⟩)
    ∧ (t.drive.enable = false ∧ t.drive.period = 1000 ∧ t.drive.timer = 0 ∧ t.drive.seq = 0
        ∧ t.drive.lastXYaw = none ∧ t.drive.lastY = none ∧ t.drive.sending = none)
    ∧ (∀ e : Event, e.mem t.status.sticky = true ↔ e = .restarted)
    ∧ t.status.mask = 0 ∧ t.attn = false

/-- 09 R166: the station address a strap setting leaves. -/
def State.HasStation (t : State) (straps : Nat) : Prop :=
  (1 ≤ straps ∧ straps ≤ 254 → t.link.station = some (BitVec.ofNat 8 straps))
    ∧ (straps = 0 ∨ straps = 255 → t.link.station = none)

/-- What a restart makes of `s`, block by block (01 R15, 02 R38, 03 R57, 04 R74, 05 R80, R91, 06 R115,
07 R138, 08 R141, 09 R167, 10 R172, R176). -/
def State.RestartedFrom (s t : State) (straps : Nat) : Prop :=
  t.newest = s.newest
    ∧ (∀ ch, (t.chan ch).front =
        { (s.chan ch).front with
          synthAngle := 0, clipCount := 0, phase := 0, amplitude := 0, clipped := false })
    ∧ (∀ ch, (s.chan ch).counter.state = .off → (t.chan ch).counter = (s.chan ch).counter)
    ∧ (∀ ch, (s.chan ch).counter.state ≠ .off → (t.chan ch).counter =
        { (s.chan ch).counter with
          state := .dark, p := 0, lastPhase := 0, lastStep := 0, acquireRun := 0, coastRun := 0
          trimTravel := 0, epoch := (s.chan ch).counter.epoch + 1 })
    ∧ (t.fit.working = none ∧ t.fit.queue = [] ∧ (∀ ch, t.fit.pendingReset.get ch = false)
        ∧ t.fit.timeoutMs = s.fit.timeoutMs ∧ t.fit.timer = none ∧ t.fit.acc = ⟨0, 0, 0, none⟩)
    ∧ (∀ ch, (∃ r, s.fit.working = some r ∧ r.channel = ch) ∨ s.fit.pendingReset.get ch = true →
        ∃ q, t.fit.result.get ch = some q ∧ q.outcome = .abandonedRestart)
    ∧ (∀ ch, (∀ r, s.fit.working = some r → r.channel ≠ ch) → s.fit.pendingReset.get ch = false →
        t.fit.result.get ch = s.fit.result.get ch)
    ∧ t.air =
        { s.air with
          snapshot := none, ageMs := s.air.ageLimit * 1000 + 1, ageSamples := 0, stale := true
          drift := false }
    ∧ t.axis = { s.axis with window := [] }
    ∧ t.line = { s.line with lastEdge := none, inFlight := none }
    ∧ t.table = s.table.map (fun r =>
        if r.state = .taken ∨ r.state = .missed ∨ r.state = .primed then
          { r with state := .armed, pending := none }
        else { r with pending := none })
    ∧ (t.pass.context = none ∧ t.pass.prevX = none ∧ t.pass.idleStrays = 0 ∧ t.pass.mode = s.pass.mode
        ∧ t.pass.startThr = s.pass.startThr ∧ t.pass.stopThr = s.pass.stopThr
        ∧ t.pass.settle = s.pass.settle ∧ t.pass.number = s.pass.number)
    ∧ (s.pass.context = none → t.pass.last = s.pass.last)
    ∧ (∀ c k, s.pass.context = some c → s.newest = some k → t.pass.last = some
        { number := c.number, direction := c.direction, origin := c.origin, opening := c.opening
          closing := k, outcome := .aborted, reason := .restart, xStart := c.xStart, xFar := c.xFar
          counters := c.counters, misses := 0, committed := 0 })
    ∧ t.reref.wait = none
    ∧ (s.reref.wait = none → t.reref.result = s.reref.result)
    ∧ (∀ w k, s.reref.wait = some w → s.newest = some k → t.reref.result = some
        { outcome := .failedRestart, line := w.line, accepting := w.accepting, endSample := k
          discarded := w.discarded, capture := none, applied := none })
    ∧ (t.link.rx.state = .hunt ∧ t.link.buffer = none ∧ t.hold = false
        ∧ t.link.inService = s.link.inService ∧ t.link.counters = ⟨0, 0, 0, 0, 0⟩
        ∧ t.link.group = s.link.group ∧ t.link.divisor = s.link.divisor ∧ t.HasStation straps)
    ∧ t.drive = { s.drive with timer := 0, seq := 0, lastXYaw := none, lastY := none }
    ∧ (∀ e : Event, e.mem t.status.sticky = true ↔ e = .restarted)
    ∧ t.status.mask = s.status.mask

/-! ### Runs of commands -/

/-- The commands of a list, one after the other, stopping at the first that does not answer a next
state. -/
def runCommands : List Instr → State → Host.Outcome State Fault Refusal
  | [], s => .next s
  | c :: rest, s =>
    match exec c s with
    | .next t => runCommands rest t
    | .fault f => .fault f
    | .refused r => .refused r

/-- A run of characters with good stop bits. -/
def receiveAll (bytes : Bytes) (s : State) : Host.Outcome State Fault Refusal :=
  runCommands (bytes.map (fun b => .receiveCharacter b true)) s

end Sys2Proof.Machine
end

