-- ==== Sys2Proof/Certificates/Slice0/Obligations.lean ====
section
/-! DEFINITION. The statements about the model, for the provers. -/

open Sys2Proof Sys2Proof.Machine

/-! ### Steps -/

/-- A step takes the command at the front of the queue and runs it on the state with the queue's rest; on
an empty queue the part idles (the model's choice, log entry 1). -/
def Obligations.StepTakesFront : Prop :=
  (∀ (c : Instr) (s : State), step (s.withFront c) = exec c s)
    ∧ ∀ s : State, s.pending = [] → step s = .next s

/-- Every command answers a next state and leaves the waiting commands alone (log entries 1 and 29). -/
def Obligations.ExecKeepsQueue : Prop :=
  ∀ (c : Instr) (s : State), ∃ t, exec c s = .next t ∧ t.pending = s.pending

/-! ### Numbers and the sample path -/

/-- 00 R1 and 03 R47 step 6: a rounded quotient is the nearest integer, and of two nearest the one further
from zero; the rounded n / √d lies within a half of the exact value, for a numerator of either sign. -/
def Obligations.RoundedQuotientsAreNearest : Prop :=
  (∀ n d : Int, 0 < d →
    2 * (n - roundDiv n d * d).natAbs ≤ d
      ∧ (2 * ((n - roundDiv n d * d).natAbs : Int) = d → n.natAbs < (roundDiv n d * d).natAbs))
    ∧ ∀ n d : Int, 0 < d →
      (0 ≤ n → 0 ≤ roundDivSqrt n d
        ∧ (roundDivSqrt n d = 0 ∨ (2 * roundDivSqrt n d - 1) ^ 2 * d ≤ 4 * n ^ 2)
        ∧ 4 * n ^ 2 < (2 * roundDivSqrt n d + 1) ^ 2 * d)
        ∧ roundDivSqrt (-n) d = -roundDivSqrt n d

/-- 01 R8, R9: the amplitude is the largest integer whose square does not exceed x² + y²; the phase is the
angle of the point, from the positive x axis toward the positive y axis, in 1024ths of a turn, rounded to
the nearest and taken mod 1024, and 0 for the point (0, 0). -/
def Obligations.AmplitudeAndPhaseOfPoint : Prop :=
  ∀ x y : Int,
    (amplitudeOf x y : Int) * amplitudeOf x y ≤ x * x + y * y
      ∧ x * x + y * y < ((amplitudeOf x y : Int) + 1) * ((amplitudeOf x y : Int) + 1)
      ∧ ((x ≠ 0 ∨ y ≠ 0) →
        ∃ k : Int, |Complex.arg ⟨(x : ℝ), (y : ℝ)⟩ * 1024 / (2 * Real.pi) - (k : ℝ)| ≤ 1 / 2
          ∧ (phaseOf x y : Int) = k % 1024)
      ∧ phaseOf 0 0 = 0

/-- 01 R4, R5, R10: under the nominal set the phase of a synthetic sample is the angle it was made from,
1024 less the angle when INVERTED; its amplitude is 1599 or 1600 and it is not clipped. -/
def Obligations.SyntheticSamplePhase : Prop :=
  ∀ a : Nat, a ≤ 1023 →
    pairPhase ⟨0, 0, 32768, 0⟩ .normal (synthCos a) (synthSin a) = a
      ∧ pairPhase ⟨0, 0, 32768, 0⟩ .inverted (synthCos a) (synthSin a) = (1024 - a) % 1024
      ∧ (pairAmplitude ⟨0, 0, 32768, 0⟩ (synthCos a) (synthSin a) = 1599
        ∨ pairAmplitude ⟨0, 0, 32768, 0⟩ (synthCos a) (synthSin a) = 1600)
      ∧ isClipped (synthCos a) (synthSin a) = false

/-- 01 R3 to R5, R7, R8, R10, R11, R16: what a front end makes of a pair. The working pair is the port's or
the synthetic pair of the angle before its advance; u and v are the codes less their offsets, and the point
is (u, rounded((v g − u σ) / 32768)). Its amplitude, its phase after the sense and the clipped mark are kept,
the clip counter counts a clipped sample up to its top, and the working pair goes to the fit unit with the
mark and the counter's step; an OFF channel takes no part. The phase and the amplitude of a point are
AmplitudeAndPhaseOfPoint. For codes and a set in range the phase is 0..1023, the amplitude 0..10,082, the
corrected y −9214..9214, and the clipped mark is set exactly at the ends of the code range. -/
def Obligations.FrontEndResultsInRange : Prop :=
  (∀ (e : EllipseSet) (sense : Sense) (c s : Int), e.inRange → isCode c → isCode s →
    pairPhase e sense c s ≤ 1023 ∧ pairAmplitude e c s ≤ 10082
      ∧ (-9214 ≤ (correct e c s).2 ∧ (correct e c s).2 ≤ 9214)
      ∧ (isClipped c s = true ↔ c = -2048 ∨ c = 2047 ∨ s = -2048 ∨ s = 2047))
  ∧ (∀ (e : EllipseSet) (c s x y : Int), x = c - e.offsetC →
    y = roundDiv ((s - e.offsetS) * e.g - x * e.sigma) 32768 →
    correct e c s = (x, y) ∧ pairAmplitude e c s = amplitudeOf x y
      ∧ pairPhase e .normal c s = phaseOf x y
      ∧ pairPhase e .inverted c s = (1024 - phaseOf x y) % 1024
      ∧ 2 * (32768 * y - ((s - e.offsetS) * e.g - x * e.sigma)).natAbs ≤ 32768)
  ∧ (∀ (f : FrontEnd) (p : Pair) (c s : Int) (clip : Bool),
    (f.source = .detector ∧ c = p.c.toInt ∧ s = p.s.toInt
      ∨ f.source = .synthetic ∧ c = synthCos f.synthAngle ∧ s = synthSin f.synthAngle) →
    clip = decide (c = -2048 ∨ c = 2047 ∨ s = -2048 ∨ s = 2047) →
    f.arrive p =
        { f with
          synthAngle :=
            if f.source = .synthetic then (((f.synthAngle : Int) + f.synthStep) % 1024).toNat
            else f.synthAngle
          clipCount := if clip ∧ f.clipCount < 4294967295 then f.clipCount + 1 else f.clipCount
          phase := pairPhase f.params f.sense c s
          amplitude := pairAmplitude f.params c s
          clipped := clip }
      ∧ ∀ u : ChannelUnit, u.front = f → u.counter.state ≠ .off →
        (u.arrive p).unit.front = f.arrive p
          ∧ (u.arrive p).unit.counter =
            (u.counter.arrive (f.arrive p).phase (f.arrive p).amplitude).counter
          ∧ (u.arrive p).sample = some
            { c := c, s := s, clipped := clip
              step := (u.counter.arrive (f.arrive p).phase (f.arrive p).amplitude).step })
  ∧ ∀ (u : ChannelUnit) (p : Pair), u.counter.state = .off →
    (u.arrive p).unit = u ∧ (u.arrive p).sample = none

/-- 02 R18: with r the residual of a phase against the prediction, wrapped into −512..511, the sample passes
exactly when |r| ≤ 384, the new step is at most 2047 and the new count is within the limits; an overrange
slip clamps the count, any other slip leaves it. -/
def Obligations.UnwrapAcceptsNearSteps : Prop :=
  ∀ (c : Counter) (φ : Nat) (r : Int), φ ≤ 1023 → -512 ≤ r → r ≤ 511 →
    ((c.lastPhase : Int) + c.lastStep + r - (φ : Int)) % 1024 = 0 →
    (r.natAbs ≤ 384 → (c.lastStep + r).natAbs ≤ 2047 →
        (c.p + (c.lastStep + r)).natAbs ≤ 140737488355327 →
        c.unwrap φ = .passes (c.p + (c.lastStep + r)) (c.lastStep + r))
      ∧ (384 < r.natAbs ∨ 2047 < (c.lastStep + r).natAbs → c.unwrap φ = .slip c.p)
      ∧ (r.natAbs ≤ 384 → (c.lastStep + r).natAbs ≤ 2047 →
        140737488355327 < c.p + (c.lastStep + r) → c.unwrap φ = .slip 140737488355327)
      ∧ (r.natAbs ≤ 384 → (c.lastStep + r).natAbs ≤ 2047 →
        c.p + (c.lastStep + r) < -140737488355327 → c.unwrap φ = .slip (-140737488355327))

/-- 02 section 2.4, R19 to R25, R29: the state a counter takes on a sample of phase φ and amplitude `amp`,
with its epoch, its trim travel and whether it raises LOST; an OFF counter is not touched. -/
def Obligations.CounterStateTable : Prop :=
  ∀ (c : Counter) (φ amp : Nat),
    (c.state = .off → (c.arrive φ amp).counter = c ∧ (c.arrive φ amp).lost = false)
      ∧ (c.state = .dark → c.floor + 32 ≤ amp → c.acquireRun = 63 →
        (c.arrive φ amp).counter =
          { c with state := .unreferenced, lastPhase := φ, lastStep := 0, acquireRun := 0 }
          ∧ (c.arrive φ amp).lost = false)
      ∧ (c.state = .dark → c.floor + 32 ≤ amp → c.acquireRun < 63 →
        (c.arrive φ amp).counter = { c with acquireRun := c.acquireRun + 1 }
          ∧ (c.arrive φ amp).lost = false)
      ∧ (c.state = .dark → amp < c.floor + 32 →
        (c.arrive φ amp).counter = { c with acquireRun := 0 } ∧ (c.arrive φ amp).lost = false)
      ∧ (c.state = .unreferenced → amp < c.floor →
        (c.arrive φ amp).counter =
          { c with state := .dark, lastStep := 0, acquireRun := 0, epoch := c.epoch + 1 }
          ∧ (c.arrive φ amp).lost = false)
      ∧ (c.state = .unreferenced → c.floor ≤ amp → ∀ p, c.unwrap φ = .slip p →
        (c.arrive φ amp).counter =
          { c with
            state := .unreferenced, p := p, lastStep := 0, lastPhase := φ, epoch := c.epoch + 1 }
          ∧ (c.arrive φ amp).lost = false)
      ∧ (c.state = .tracking → c.floor ≤ amp → ∀ p, c.unwrap φ = .slip p →
        (c.arrive φ amp).counter =
          { c with
            state := .unreferenced, p := p, lastStep := 0, lastPhase := φ, epoch := c.epoch + 1 }
          ∧ (c.arrive φ amp).lost = true)
      ∧ (c.state = .tracking → amp < c.floor → (c.p + c.lastStep).natAbs ≤ 140737488355327 →
        (c.arrive φ amp).counter =
          { c with
            state := .coasting, p := c.p + c.lastStep
            lastPhase := (((c.lastPhase : Int) + c.lastStep) % 1024).toNat, coastRun := 1 }
          ∧ (c.arrive φ amp).lost = false)
      ∧ (c.state = .coasting → amp < c.floor → c.coastRun < c.coastLimit →
        (c.p + c.lastStep).natAbs ≤ 140737488355327 →
        (c.arrive φ amp).counter =
          { c with
            p := c.p + c.lastStep
            lastPhase := (((c.lastPhase : Int) + c.lastStep) % 1024).toNat
            coastRun := c.coastRun + 1 }
          ∧ (c.arrive φ amp).lost = false)
      ∧ (c.state = .tracking ∨ (c.state = .coasting ∧ c.coastRun < c.coastLimit) → amp < c.floor →
        ∀ q, (q = 140737488355327 ∧ q < c.p + c.lastStep)
            ∨ (q = -140737488355327 ∧ c.p + c.lastStep < q) →
        (c.arrive φ amp).counter =
          { c with
            state := .unreferenced, p := q, lastStep := 0
            lastPhase := (((c.lastPhase : Int) + c.lastStep) % 1024).toNat, coastRun := 0
            epoch := c.epoch + 1 }
          ∧ (c.arrive φ amp).lost = true)
      ∧ (c.state = .coasting → amp < c.floor → c.coastLimit ≤ c.coastRun →
        (c.arrive φ amp).counter =
          { c with
            state := .dark, lastStep := 0, acquireRun := 0, coastRun := 0, epoch := c.epoch + 1 }
          ∧ (c.arrive φ amp).lost = true)
      ∧ (c.state = .coasting → c.floor ≤ amp → ∀ p, c.unwrap φ = .slip p →
        (c.arrive φ amp).counter =
          { c with
            state := .unreferenced, p := p, lastStep := 0, lastPhase := φ, coastRun := 0
            epoch := c.epoch + 1 }
          ∧ (c.arrive φ amp).lost = true)
      ∧ (c.state = .unreferenced ∨ c.state = .tracking ∨ c.state = .coasting → c.floor ≤ amp → ∀ p step,
        c.unwrap φ = .passes p step →
        ∀ reached, (reached ↔ 0 < c.trimInterval
          ∧ c.trimInterval * 1048576 ≤ c.trimTravel + step.natAbs) →
        ((c.arrive φ amp).trim = true ↔ reached)
          ∧ (c.arrive φ amp).counter =
            { c with
              state := if c.state = .unreferenced then .unreferenced else .tracking
              p := p, lastStep := step, lastPhase := φ
              coastRun := if c.state = .coasting then 0 else c.coastRun
              trimTravel :=
                if c.trimInterval = 0
                    ∨ c.trimInterval * 1048576 ≤ c.trimTravel + step.natAbs then 0
                else c.trimTravel + step.natAbs }
            ∧ (c.arrive φ amp).lost = false ∧ (c.arrive φ amp).step = some step)

/-- SAMPLE_ARRIVAL completes (01 R2, R3, R13, 02 R27, R28, 05 R79, 10 R169): the index counts on, each
enabled channel handles its own pair and an OFF channel takes no part, the window takes the sample's entry,
the report timer counts, and a LOST event is raised exactly for a channel that reports it. The tracker
values of the sample are those T's counter formed for it (04 R59); the
snapshot is dropped when the epoch of T has left it (R61); the drift condition follows the tracker term
and raises COMP_DRIFT from clear to set (R67); the sample counts toward the next millisecond of an age that
has not saturated (R66). The trim requests of the arrival, in the order the command carries, each enter the
empty slot or the tail of the queue, and are dropped where their channel has a request (03 R39, R41). While
XL and XR keep their reference no record, pass, capture in flight or link state changes. For a part with
nothing due (log entry 2); the orders of trim requests and of a capture are operands (log entry 5), and a
wait with a capture that comes first is left out. What is due after is ArrivalMakesEventsDue, a begun fit
ArrivalFeedsFit, a wait ArrivalActsOnWait. -/
def Obligations.SampleArrivalRunsChannels : Prop :=
  ∀ (a : SampleInput) (s : State), s.Quiet → (s.reref.wait = none ∨ a.captureFirst = false) →
    ∃ t, exec (.sampleArrival a) s = .next t
      ∧ t.newest = some s.arrivingIndex
      ∧ (∀ ch, (s.chan ch).counter.state = .off → t.chan ch = s.chan ch)
      ∧ (∀ ch, (s.chan ch).counter.state ≠ .off →
          t.chan ch =
            { front := (s.chan ch).front.arrive (a.pairOf ch)
              counter := ((s.chan ch).counter.arrive
                ((s.chan ch).front.arrive (a.pairOf ch)).phase
                ((s.chan ch).front.arrive (a.pairOf ch)).amplitude).counter })
      ∧ (∀ ch, (lostEvent ch).mem t.status.sticky =
          ((lostEvent ch).mem s.status.sticky
            || ((s.chan ch).counter.arrive
                ((s.chan ch).front.arrive (a.pairOf ch)).phase
                ((s.chan ch).front.arrive (a.pairOf ch)).amplitude).lost))
      ∧ t.axis =
          { s.axis with
            window :=
              (({ index := s.arrivingIndex
                  pXL := (t.chan .xl).counter.p
                  pXR := (t.chan .xr).counter.p
                  pY := (t.chan .y).counter.p
                  markXL := (t.chan .xl).counter.state.mark
                  markXR := (t.chan .xr).counter.state.mark
                  markY := (t.chan .y).counter.state.mark } : WindowEntry) :: s.axis.window).take 64 }
      ∧ t.drive = { s.drive with timer := if s.drive.enable then s.drive.timer + 1 else s.drive.timer }
      ∧ t.arrival.tracker =
          { p := (t.chan .t).counter.p, epoch := (t.chan .t).counter.epoch
            state := (t.chan .t).counter.state }
      ∧ t.link = s.link ∧ t.straps = s.straps ∧ t.restartLine = s.restartLine
      ∧ (s.pass.context = none
          ∨ (∀ ch, ch = .xl ∨ ch = .xr → s.referenced ch = true → t.referenced ch = true) →
        t.table = s.table ∧ t.pass = s.pass ∧ t.line = s.line)
      ∧ (s.reref.wait = none → t.reref = s.reref)
      ∧ (∀ e : Event, e = .passDone ∨ e = .linkFault ∨ e = .restarted →
        e.mem t.status.sticky = e.mem s.status.sticky)
      ∧ t.air.snapshot = s.air.snapshot.filter (fun n => n.epoch == (t.chan .t).counter.epoch)
      ∧ (t.air.drift = true ↔ ∃ n, s.air.snapshot = some n
          ∧ n.epoch = (t.chan .t).counter.epoch ∧ (t.chan .t).counter.state ≠ .off
          ∧ (t.chan .t).counter.state ≠ .dark ∧ s.air.tPath ≠ 0
          ∧ s.air.driftLimit <
            (roundDiv (((t.chan .t).counter.p - n.tSnap) * 1000000000) s.air.tPath).natAbs)
      ∧ Event.compDrift.mem t.status.sticky =
          (Event.compDrift.mem s.status.sticky || (t.air.drift && !s.air.drift))
      ∧ (a.captureFirst = false → t.air =
          { s.air with
            snapshot := t.air.snapshot, drift := t.air.drift
            ageSamples :=
              if s.air.ageLimit * 1000 + 1 ≤ s.air.ageMs then s.air.ageSamples
              else if 10000 ≤ s.air.ageSamples + 1 then 0 else s.air.ageSamples + 1 })
      ∧ (∀ new : List FitRequest,
        new = ((a.trimOrder ++ allChannels).eraseDups.filter (fun ch =>
            ((s.chan ch).counter.arrive
              ((s.chan ch).front.arrive (a.pairOf ch)).phase
              ((s.chan ch).front.arrive (a.pairOf ch)).amplitude).trim
            && !decide (ch ∈ s.fit.claims))).map (fun ch => ⟨ch, .short, .trim⟩) →
        t.fit.queue = (if s.fit.working = none then new.tail else s.fit.queue ++ new)
          ∧ (s.fit.timer = none → t.fit =
            { s.fit with
              working := if s.fit.working = none then new.head? else s.fit.working
              queue := t.fit.queue }))

/-- 04 R66, 07 R116, 08 R142, 10 R169, 03 R43, R51: which of the part's own events an arrival makes due. That
they become due and are taken by their own commands is the model's choice (log entry 2); that a request
which enters the slot at this arrival does not begin at it is the model's reading of R43 (log entry 11). For
an arrival that lets no capture come first, the operand of log entry 5. -/
def Obligations.ArrivalMakesEventsDue : Prop :=
  ∀ (a : SampleInput) (s : State), s.Quiet → a.captureFirst = false →
    ∃ t, exec (.sampleArrival a) s = .next t
      ∧ (t.arrival.check = true ↔ s.arrivingIndex % 16 = 0)
      ∧ (t.arrival.report = true ↔ s.drive.enable = true ∧ s.drive.period ≤ s.drive.timer + 1)
      ∧ (t.arrival.rerefExpiry = true ↔
          ∃ w, s.reref.wait = some w ∧ s.arrivingIndex = w.accepting + w.timeoutS * 10000000)
      ∧ (t.arrival.fitBegin = true ↔ s.fit.working ≠ none ∧ s.fit.timer = none)
      ∧ (∀ ch, t.arrival.resetInstall.get ch = s.fit.pendingReset.get ch)
      ∧ (t.arrival.ageTick = true ↔
          s.air.ageMs < s.air.ageLimit * 1000 + 1 ∧ 10000 ≤ s.air.ageSamples + 1)

/-- 07 R121, R123, R124, 06 R108: an arrival that takes XL or XR out of reference aborts the open pass:
its TAKEN and MISSED records are ARMED again with no capture, nothing else of them changes, and the summary
says REFERENCE_LOST with the counters as they stood. -/
def Obligations.ReferenceLossAbortsPass : Prop :=
  ∀ (a : SampleInput) (s : State) (c : PassContext) (ch : Channel), s.Quiet → a.captureFirst = false →
    s.pass.context = some c → (ch = .xl ∨ ch = .xr) → s.referenced ch = true →
    ((s.chan ch).arrive (a.pairOf ch)).unit.counter.state.referenced = false →
    ∃ t, exec (.sampleArrival a) s = .next t
      ∧ t.pass =
          { s.pass with
            context := none
            last := some
              { number := c.number, direction := c.direction, origin := c.origin, opening := c.opening
                closing := s.arrivingIndex, outcome := .aborted, reason := .referenceLost
                xStart := c.xStart, xFar := c.xFar, counters := c.counters, misses := 0
                committed := 0 } }
      ∧ t.table = s.table.map (fun r =>
          if r.state = .taken ∨ r.state = .missed then { r with state := .armed, pending := none } else r)
      ∧ Event.passAborted.mem t.status.sticky = true
      ∧ (lostEvent ch).mem t.status.sticky = true

/-- 08 R143, R145, R148: at an arrival, XL or XR becoming DARK ends the wait FAILED_SIGNAL with REREF_END;
a change of an epoch of XL or XR that is not that moves the valid-from sample to this sample, never back.
Whether a capture comes first is an operand (log entry 5): with none in flight it makes no difference, and
one that comes before an ending is discarded and counted, since the lost channel's epoch has changed. That
FAILED_SIGNAL ends the wait also at the arrival of the wait timer's expiry sample is the model's choice: R142
and R143 do not say which ending stands there (log entry 31). An arrival that takes neither to DARK and moves
no epoch of theirs leaves reference control as it is. -/
def Obligations.ArrivalActsOnWait : Prop :=
  (∀ (a : SampleInput) (s : State), s.Quiet → s.line.inFlight = none →
    exec (.sampleArrival a) s = exec (.sampleArrival { a with captureFirst := false }) s)
  ∧ (∀ (a : SampleInput) (s : State) (w : Wait) (ch : Channel) (e0 : WindowEntry)
      (rest : List WindowEntry) (tOff : Nat), s.Quiet → a.captureFirst = true →
    s.reref.wait = some w → (ch = .xl ∨ ch = .xr) → s.newest = some e0.index →
    e0.index < 18446744073709551615 → s.axis.window = e0 :: rest →
    s.line.inFlight = some ⟨e0.index, tOff⟩ → (s.chan ch).counter.state ≠ .dark →
    ((s.chan ch).arrive (a.pairOf ch)).unit.counter.state = .dark →
    ∃ t, exec (.sampleArrival a) s = .next t ∧ t.line.inFlight = none
      ∧ t.reref =
        { wait := none
          result := some
            { outcome := .failedSignal, line := w.line, accepting := w.accepting
              endSample := e0.index + 1
              discarded := if w.discarded < 65535 then w.discarded + 1 else w.discarded
              capture := none, applied := none } }
      ∧ Event.rerefEnd.mem t.status.sticky = true)
  ∧ (∀ (a : SampleInput) (s : State), s.Quiet → (a.captureFirst = false ∨ s.pass.context = none) →
    (∀ m, m = .xl ∨ m = .xr →
      ((s.chan m).arrive (a.pairOf m)).unit.counter.epoch = (s.chan m).counter.epoch
        ∧ (((s.chan m).arrive (a.pairOf m)).unit.counter.state = .dark →
          (s.chan m).counter.state = .dark)) →
    ∃ t, exec (.sampleArrival a) s = .next t ∧ t.reref = s.reref)
  ∧ ∀ (a : SampleInput) (s : State) (w : Wait) (ch : Channel), s.Quiet → a.captureFirst = false →
    s.reref.wait = some w → (ch = .xl ∨ ch = .xr) →
    ((s.chan ch).counter.state ≠ .dark →
        ((s.chan ch).arrive (a.pairOf ch)).unit.counter.state = .dark →
        ∃ t, exec (.sampleArrival a) s = .next t
          ∧ t.reref =
              { wait := none
                result := some
                  { outcome := .failedSignal, line := w.line, accepting := w.accepting
                    endSample := s.arrivingIndex, discarded := w.discarded, capture := none
                    applied := none } }
          ∧ Event.rerefEnd.mem t.status.sticky = true)
      ∧ ((∀ m, m = .xl ∨ m = .xr → ((s.chan m).arrive (a.pairOf m)).unit.counter.state ≠ .dark) →
        ((s.chan ch).arrive (a.pairOf ch)).unit.counter.epoch ≠ (s.chan ch).counter.epoch →
        ∃ t, exec (.sampleArrival a) s = .next t
          ∧ t.reref =
              { s.reref with wait := some { w with validFrom := max w.validFrom s.arrivingIndex } })

/-! ### The part's own events -/

/-- AGE_TICK (04 R66): the age grows by 1 ms up to its top; reaching the top sets the stale condition and
raises COMP_STALE; at the top it stays. Not due, nothing happens (log entry 3). -/
def Obligations.AgeTickCounts : Prop :=
  ∀ s : State,
    (s.arrival.ageTick = false → exec .ageTick s = .next s)
      ∧ (s.arrival.ageTick = true → s.air.ageMs < s.air.ageLimit * 1000 →
        exec .ageTick s = .next
          ((s.withAir { s.air with ageMs := s.air.ageMs + 1 }).withArrival
            { s.arrival with ageTick := false }))
      ∧ (s.arrival.ageTick = true → s.air.ageMs = s.air.ageLimit * 1000 →
        exec .ageTick s = .next
          (((s.withAir
            { s.air with ageMs := s.air.ageLimit * 1000 + 1, stale := true }).withArrival
            { s.arrival with ageTick := false }).raise .compStale))
      ∧ (s.arrival.ageTick = true → s.air.ageLimit * 1000 + 1 ≤ s.air.ageMs →
        exec .ageTick s = .next (s.withArrival { s.arrival with ageTick := false }))

/-- CHECK without a ΔX that opens or closes a pass (07 R116, R117, R120, R131): when X is not valid the
previous check X is made absent and nothing else happens. With no pass open and no previous check X, with ΔX
below the start threshold, in HOST mode, or while reference control is WAITING, the check only takes this X.
With a pass open and no previous check X, X_far moves if X lies further and crossed windows are marked, the
settle run stays, and this X is taken. Not due, nothing happens (log entry 3). -/
def Obligations.CheckWithoutDelta : Prop :=
  ∀ s : State,
    (s.arrival.check = false → exec .check s = .next s)
      ∧ (s.arrival.check = true → s.arrival.ageTick = false →
        ¬(s.referenced .xl = true ∧ s.referenced .xr = true) →
        exec .check s = .next
          ((s.withArrival { s.arrival with check := false }).withPass { s.pass with prevX := none }))
      ∧ (s.arrival.check = true → s.arrival.ageTick = false →
        s.referenced .xl = true → s.referenced .xr = true → s.pass.context = none →
        (s.pass.prevX = none ∨ s.pass.mode = .host ∨ s.reref.wait ≠ none
          ∨ ∃ prev, s.pass.prevX = some prev ∧ (s.position.x - prev).natAbs < s.pass.startThr) →
        exec .check s = .next
          ((s.withArrival { s.arrival with check := false }).withPass
            { s.pass with prevX := some s.position.x }))
      ∧ (∀ (c : PassContext) (far : Int), s.arrival.check = true → s.arrival.ageTick = false →
        s.referenced .xl = true → s.referenced .xr = true → s.pass.context = some c →
        s.pass.prevX = none →
        far = (if c.direction = .fwd then max c.xFar s.position.x else min c.xFar s.position.x) →
        exec .check s = .next
          (((s.withArrival { s.arrival with check := false }).withPass
            { s.pass with
              prevX := some s.position.x
              context := some { c with xFar := far } }).withTable
            (s.table.map (crossingMark c.direction c.xStart far))))

/-- CHECK opens a pass in AUTO mode (07 R120, R131, 06 R96): ΔX at or above the start threshold, IDLE
reference control and no open pass. The pass takes the next number, the direction of ΔX, X_start at the
previous check X and X_far at this X; PRIMED records become ARMED, then crossed windows MISSED. -/
def Obligations.CheckOpensPass : Prop :=
  ∀ (s : State) (prev : Int) (k : Nat), s.arrival.check = true → s.arrival.ageTick = false →
    s.newest = some k → s.referenced .xl = true → s.referenced .xr = true → s.pass.context = none →
    s.reref.wait = none → s.pass.mode = .auto → s.pass.prevX = some prev →
    s.pass.startThr ≤ (s.position.x - prev).natAbs →
    ∀ d : Direction, d = (if 0 < s.position.x - prev then Direction.fwd else Direction.rev) →
    exec .check s = .next
      (((s.withArrival { s.arrival with check := false }).withPass
        { s.pass with
          number := s.pass.number + 1
          prevX := some s.position.x
          context := some
            { number := s.pass.number + 1, direction := d, origin := .auto, opening := k
              xStart := prev, xFar := s.position.x, settleRun := 0
              counters := ⟨0, 0, 0, 0, 0, 0, 0⟩ } }).withTable
        (s.table.map (fun r => crossingMark d prev s.position.x
          (if r.state = .primed then { r with state := .armed } else r))))

/-- CHECK of an open pass that stays open (07 R116 to R118): X_far moves if X lies further, crossed windows
are marked, a quiet check adds to the settle run, any other sets it to 0. -/
def Obligations.CheckAdvancesPass : Prop :=
  ∀ (s : State) (c : PassContext) (prev far : Int) (run : Nat), s.arrival.check = true →
    s.arrival.ageTick = false → s.referenced .xl = true → s.referenced .xr = true →
    s.pass.context = some c → s.pass.prevX = some prev →
    far = (if c.direction = .fwd then max c.xFar s.position.x else min c.xFar s.position.x) →
    run = (if (s.position.x - prev).natAbs < s.pass.stopThr then
        (if c.settleRun < 65535 then c.settleRun + 1 else c.settleRun) else 0) →
    (s.pass.mode = .host
      ∨ ((s.pass.stopThr ≤ (s.position.x - prev).natAbs ∨ run < s.pass.settle)
        ∧ ((s.position.x - prev).natAbs < s.pass.startThr
          ∨ (c.direction = .fwd ∧ prev ≤ s.position.x) ∨ (c.direction = .rev ∧ s.position.x ≤ prev)))) →
    exec .check s = .next
      (((s.withArrival { s.arrival with check := false }).withPass
        { s.pass with
          prevX := some s.position.x
          context := some
            { c with xFar := far, settleRun := run } }).withTable
        (s.table.map (crossingMark c.direction c.xStart far)))

/-- CHECK closes a pass at standstill in AUTO mode (07 R118, R122, R124): the quiet check that brings the
settle run to the settle count commits the pass, with reason STANDSTILL, and opens none. -/
def Obligations.CheckClosesAtStandstill : Prop :=
  ∀ (s : State) (c : PassContext) (prev far : Int) (k : Nat) (marked : List LineRecord),
    s.arrival.check = true → s.arrival.ageTick = false → s.newest = some k →
    s.referenced .xl = true → s.referenced .xr = true → s.pass.context = some c →
    s.pass.prevX = some prev → s.pass.mode = .auto → s.pass.stopThr ≤ s.pass.startThr →
    (s.position.x - prev).natAbs < s.pass.stopThr →
    s.pass.settle ≤ (if c.settleRun < 65535 then c.settleRun + 1 else c.settleRun) →
    far = (if c.direction = .fwd then max c.xFar s.position.x else min c.xFar s.position.x) →
    marked = s.table.map (crossingMark c.direction c.xStart far) →
    exec .check s = .next
      ((((s.withArrival { s.arrival with check := false }).withPass
        { s.pass with
          prevX := some s.position.x
          context := none
          last := some
            { number := c.number, direction := c.direction, origin := c.origin, opening := c.opening
              closing := k, outcome := .complete, reason := .standstill, xStart := c.xStart
              xFar := far, counters := c.counters
              misses := (marked.filter (fun r => r.state = .missed)).length
              committed := committedCount marked } }).withTable
        (marked.map LineRecord.commit)).raise .passDone)

/-- CHECK reverses a pass in AUTO mode (07 R119, R120): ΔX against the pass's direction, at or above the
start threshold, commits the pass with reason REVERSAL and opens one in the other direction, X_start at
the previous check X. -/
def Obligations.CheckReversesPass : Prop :=
  ∀ (s : State) (c : PassContext) (prev far : Int) (k : Nat) (d : Direction)
    (marked : List LineRecord),
    s.arrival.check = true → s.arrival.ageTick = false → s.newest = some k →
    s.referenced .xl = true → s.referenced .xr = true → s.reref.wait = none →
    s.pass.context = some c → s.pass.prevX = some prev → s.pass.mode = .auto →
    s.pass.stopThr ≤ s.pass.startThr →
    s.pass.startThr ≤ (s.position.x - prev).natAbs →
    (c.direction = .fwd ∧ s.position.x < prev ∧ d = .rev
      ∨ c.direction = .rev ∧ prev < s.position.x ∧ d = .fwd) →
    far = (if c.direction = .fwd then max c.xFar s.position.x else min c.xFar s.position.x) →
    marked = s.table.map (crossingMark c.direction c.xStart far) →
    ∃ t, exec .check s = .next t
      ∧ t.pass =
          { s.pass with
            number := s.pass.number + 1
            prevX := some s.position.x
            context := some
              { number := s.pass.number + 1, direction := d, origin := .auto, opening := k
                xStart := prev, xFar := s.position.x, settleRun := 0
                counters := ⟨0, 0, 0, 0, 0, 0, 0⟩ }
            last := some
              { number := c.number, direction := c.direction, origin := c.origin
                opening := c.opening, closing := k, outcome := .complete, reason := .reversal
                xStart := c.xStart, xFar := far, counters := c.counters
                misses := (marked.filter (fun r => r.state = .missed)).length
                committed := committedCount marked } }
      ∧ t.table = marked.map (fun r => crossingMark d prev s.position.x
          (if r.commit.state = .primed then { r.commit with state := .armed } else r.commit))
      ∧ Event.passDone.mem t.status.sticky = true
      ∧ t.channels = s.channels ∧ t.fit = s.fit ∧ t.link = s.link ∧ t.reref = s.reref

/-- 06 R106, R107: what the commit of a pass makes of a record, row by row; the half a merge leaves holds
the sums, extremes and counts of R106, and its line number, window, class, targets and datum flag stay. The
records a commit counts as committed (07 R122) are those that it merges. -/
def Obligations.CommitSettlesRecord : Prop :=
  ∀ r : LineRecord,
    (r.state = .missed → r.commit =
        { r with
          state := .armed, pending := none
          misses := if r.misses < 65535 then r.misses + 1 else r.misses })
      ∧ (r.state ≠ .missed → r.state ≠ .taken → r.commit = r)
      ∧ (r.commits = true ↔ r.state = .taken ∧ ∃ p, r.pending = some p ∧ p.double = false
          ∧ ∀ h, r.half p.direction = some h → h.n < 65535)
      ∧ (∀ p, r.state = .taken → r.pending = some p →
        ((∃ h, r.half p.direction = some h ∧ 65535 ≤ h.n) →
            r.commit = { r with state := .dormant, full := true, pending := none })
          ∧ ((∀ h, r.half p.direction = some h → h.n < 65535) → p.double = true →
            r.commit =
              { r with
                state := .armed, pending := none
                doubles := if r.doubles < 65535 then r.doubles + 1 else r.doubles })
          ∧ ((∀ h, r.half p.direction = some h → h.n < 65535) → p.double = false →
            r.commit.pending = none ∧ r.commit.misses = r.misses ∧ r.commit.doubles = r.doubles
              ∧ r.commit.full = r.full
              ∧ r.commit.line = r.line ∧ r.commit.nominal = r.nominal
              ∧ r.commit.halfWidth = r.halfWidth ∧ r.commit.cls = r.cls
              ∧ r.commit.targetFwd = r.targetFwd ∧ r.commit.targetRev = r.targetRev
              ∧ r.commit.datum = r.datum
              ∧ r.commit.state = (if r.commit.complete then .dormant else .armed)
              ∧ (r.commit.complete = true ↔ r.commit.TargetsReached)
              ∧ (p.direction = .fwd → r.commit.rev = r.rev)
              ∧ (p.direction = .rev → r.commit.fwd = r.fwd)
              ∧ (r.half p.direction = none → r.commit.half p.direction = some
                  { n := 1, sumX := p.x, minX := p.x, maxX := p.x, lastX := p.x
                    ny := if p.y.isSome then 1 else 0, sumY := p.y.getD 0
                    flagged := if p.marks.flagged then 1 else 0, lastPass := p.pass })
              ∧ (∀ h, r.half p.direction = some h → r.commit.half p.direction = some
                  { n := h.n + 1, sumX := h.sumX + p.x, minX := min h.minX p.x
                    maxX := max h.maxX p.x, lastX := p.x
                    ny := h.ny + if p.y.isSome then 1 else 0, sumY := h.sumY + p.y.getD 0
                    flagged := h.flagged + if p.marks.flagged then 1 else 0, lastPass := p.pass })))

/-- PULSE_ARRIVAL (05 R82 to R84, 07 R135): while the input is OFF, or for an edge of the other polarity,
nothing; a crowded pulse changes only the open pass's crowded count; an accepted pulse becomes the last
accepted edge and, unless its bracket is before sample 0 or has left no entry, the capture in flight. -/
def Obligations.PulseTakenOrCrowded : Prop :=
  ∀ (s : State) (edge : Edge) (e : Nat), s.Quiet →
    (s.line.enable = false ∨ edge ≠ s.line.polarity → exec (.pulseArrival edge e) s = .next s)
      ∧ (s.line.enable = true → edge = s.line.polarity →
        (s.line.inFlight ≠ none ∨ ∃ last, s.line.lastEdge = some last ∧ e < last + s.line.spacing) →
        exec (.pulseArrival edge e) s = .next
          (s.withPass { s.pass with context := s.pass.context.map (fun c =>
            { c with counters := { c.counters with crowded :=
                if c.counters.crowded < 4294967295 then c.counters.crowded + 1
                else c.counters.crowded } }) }))
      ∧ (s.line.enable = true → edge = s.line.polarity → s.line.inFlight = none →
        (∀ last, s.line.lastEdge = some last → last + s.line.spacing ≤ e) →
        (e < s.line.latency →
            exec (.pulseArrival edge e) s = .next
              (s.withLine { s.line with lastEdge := some e, inFlight := none }))
          ∧ (s.line.latency ≤ e → ∀ k tOff, e - s.line.latency = 100 * k + tOff → tOff ≤ 99 →
            ((∃ n, s.newest = some n ∧ k ≤ n) → (∀ w ∈ s.axis.window, w.index ≠ k) →
                exec (.pulseArrival edge e) s = .next
                  (s.withLine { s.line with lastEdge := some e, inFlight := none }))
              ∧ (((∀ n, s.newest = some n → n < k) ∨ ∃ w ∈ s.axis.window, w.index = k) →
                exec (.pulseArrival edge e) s = .next
                  (s.withLine { s.line with lastEdge := some e, inFlight := some ⟨k, tOff⟩ }))))

/-! ### Captures -/

/-- 05 R85 to R88, 04 R58, R64, 05 R76: a capture of the bracket's entries. Each count is interpolated with
one rounding, halves away from zero; each length is its path term and its dead-path term with the R_eff and
W_eff in force and the R0 and dead path of its channel; X and yaw come from the two lengths; Y's count and
length are present exactly when both its marks are REF or COAST. Direction, reference and marks are those of
the bracket and of this conversion, which reads P, epoch and state of T as formed for the newest sample,
whatever a request has made of them since (04 R59). -/
def Obligations.CaptureFieldsFromBracket : Prop :=
  ∀ (s v : State) (tOff : Nat) (e0 e1 : WindowEntry) (c : Capture), c = s.formCapture tOff e0 e1 →
    v = s.withChannels
      { s.channels with
        t := { s.channels.t with counter :=
          { s.channels.t.counter with
            p := s.arrival.tracker.p, epoch := s.arrival.tracker.epoch
            state := s.arrival.tracker.state } } } →
    c.k = e0.index ∧ c.tOff = tOff
      ∧ c.pXL = e0.pXL + roundDiv ((e1.pXL - e0.pXL) * tOff) 100
      ∧ c.pXR = e0.pXR + roundDiv ((e1.pXR - e0.pXR) * tOff) 100
      ∧ 2 * (100 * (c.pXL - e0.pXL) - (e1.pXL - e0.pXL) * tOff).natAbs ≤ 100
      ∧ 2 * (100 * (c.pXR - e0.pXR) - (e1.pXR - e0.pXR) * tOff).natAbs ≤ 100
      ∧ (2 * (100 * (c.pXL - e0.pXL) - (e1.pXL - e0.pXL) * tOff).natAbs = 100 →
        ((e1.pXL - e0.pXL) * tOff).natAbs < (100 * (c.pXL - e0.pXL)).natAbs)
      ∧ (2 * (100 * (c.pXR - e0.pXR) - (e1.pXR - e0.pXR) * tOff).natAbs = 100 →
        ((e1.pXR - e0.pXR) * tOff).natAbs < (100 * (c.pXR - e0.pXR)).natAbs)
      ∧ c.rEff = v.rEff ∧ c.wEff = v.wEff
      ∧ c.lXL = roundDiv (c.pXL * v.wEff) 16777216
          + roundDiv ((s.air.dXL : Int) * ((s.chan .xl).counter.r0 - v.rEff)) 1000
      ∧ c.lXR = roundDiv (c.pXR * v.wEff) 16777216
          + roundDiv ((s.air.dXR : Int) * ((s.chan .xr).counter.r0 - v.rEff)) 1000
      ∧ c.x = c.lXL + roundDiv ((c.lXR - c.lXL) * s.axis.f) 65536
      ∧ c.yaw = roundDiv ((c.lXR - c.lXL) * 1000) s.axis.b
      ∧ (c.direction = .fwd ↔ 0 < (e1.pXL - e0.pXL) + (e1.pXR - e0.pXR))
      ∧ (c.direction = .rev ↔ (e1.pXL - e0.pXL) + (e1.pXR - e0.pXR) < 0)
      ∧ (c.ref = true ↔ e0.markXL ≠ .unref ∧ e1.markXL ≠ .unref ∧ e0.markXR ≠ .unref
          ∧ e1.markXR ≠ .unref)
      ∧ (c.marks.coasted = true ↔ e0.markXL = .coast ∨ e1.markXL = .coast ∨ e0.markXR = .coast
          ∨ e1.markXR = .coast)
      ∧ (c.marks.stale = true ↔ s.air.ageLimit * 1000 < s.air.ageMs)
      ∧ (c.marks.drift = true ↔ ∃ dT dR, v.trackerTerm = some (dT, dR) ∧ s.air.driftLimit < dR.natAbs)
      ∧ (c.marks.noTracker = true ↔ v.trackerTerm = none)
      ∧ (c.marks.noY = true ↔ e0.markY = .unref ∨ e1.markY = .unref)
      ∧ (c.y = none ↔ c.marks.noY = true) ∧ (c.pY = none ↔ c.marks.noY = true)
      ∧ (∀ p, c.pY = some p →
        p = e0.pY + roundDiv ((e1.pY - e0.pY) * tOff) 100
          ∧ c.y = some (roundDiv (p * v.wEff) 16777216
            + roundDiv ((s.air.dY : Int) * ((s.chan .y).counter.r0 - v.rEff)) 1000))
      ∧ (c.marks.flagged = true ↔ c.marks.coasted = true ∨ c.marks.stale = true
          ∨ c.marks.drift = true ∨ c.marks.noTracker = true)

/-- CAPTURE_FORMED while reference control is IDLE (05 R84, R89, 07 R130, R132 to R135): with no pass open
an idle stray; with a pass open delivered, and the first case of R130 that holds gives the outcome. With an
entry of the bracket still to come nothing happens (log entry 3); a bracket that has left the window drops
the capture. -/
def Obligations.CaptureReachesTable : Prop :=
  (∀ s : State, s.line.inFlight = none → exec .captureFormed s = .next s)
  ∧ (∀ (s : State) (b : InFlight), s.line.inFlight = some b →
    (s.axis.entry b.k = none ∨ s.axis.entry (nextIndex b.k) = none) →
    ((∀ n, s.newest = some n → n < b.k) ∨ s.axis.entry b.k ≠ none → exec .captureFormed s = .next s)
      ∧ (∀ n, s.newest = some n → b.k ≤ n → s.axis.entry b.k = none → s.arrival.ageTick = false →
        s.arrival.resetInstall = .all false → s.reref.wait = none →
        exec .captureFormed s = .next (s.withLine { s.line with inFlight := none })))
  ∧ ∀ (s u : State) (b : InFlight) (e0 e1 : WindowEntry) (c : Capture),
    s.arrival.ageTick = false → s.arrival.resetInstall = .all false → s.reref.wait = none →
    s.line.inFlight = some b → s.axis.entry b.k = some e0 → s.axis.entry (nextIndex b.k) = some e1 →
    c = s.formCapture b.tOff e0 e1 → u = s.withLine { s.line with inFlight := none } →
    (s.pass.context = none →
        exec .captureFormed s = .next
          (u.withPass { s.pass with idleStrays :=
            if s.pass.idleStrays < 4294967295 then s.pass.idleStrays + 1 else s.pass.idleStrays }))
      ∧ (∀ p, s.pass.context = some p → s.TableOrdered →
        ((c.ref = false
            ∨ (∀ r ∈ s.table, ¬(r.nominal - (r.halfWidth : Int) ≤ c.x
              ∧ c.x ≤ r.nominal + (r.halfWidth : Int)))
            ∨ (∃ r ∈ s.table, r.nominal - (r.halfWidth : Int) ≤ c.x
              ∧ c.x ≤ r.nominal + (r.halfWidth : Int)
              ∧ (r.state = .dormant ∨ r.state = .primed ∨ r.state = .retired))
            ∨ ¬(c.direction = .fwd ∧ p.direction = .fwd ∨ c.direction = .rev ∧ p.direction = .rev)) →
          exec .captureFormed s = .next
            (u.withPass { s.pass with
            context := some
              { p with counters :=
                { p.counters with
                  delivered := inc32 p.counters.delivered, strays := inc32 p.counters.strays } } }))
        ∧ (∀ r ∈ s.table, c.ref = true → r.nominal - (r.halfWidth : Int) ≤ c.x →
          c.x ≤ r.nominal + (r.halfWidth : Int) →
          (c.direction = .fwd ∧ p.direction = .fwd ∨ c.direction = .rev ∧ p.direction = .rev) →
          ∀ taken : LineRecord, taken =
            { r with
              state := .taken
              pending := some
                { x := c.x, y := c.y, marks := c.marks, direction := p.direction, pass := p.number
                  double := false } } →
          (r.state = .armed → exec .captureFormed s = .next
              ((u.withTable (s.table.map (fun q => if q.line = r.line then taken else q))).withPass
                { s.pass with
                context := some
                  { p with counters :=
                    { p.counters with
                      delivered := inc32 p.counters.delivered, taken := inc32 p.counters.taken
                      flagged := if c.marks.flagged then inc32 p.counters.flagged
                        else p.counters.flagged } } }))
            ∧ (r.state = .missed → exec .captureFormed s = .next
              ((u.withTable (s.table.map (fun q => if q.line = r.line then taken else q))).withPass
                { s.pass with
                context := some
                  { p with counters :=
                    { p.counters with
                      delivered := inc32 p.counters.delivered, late := inc32 p.counters.late
                      flagged := if c.marks.flagged then inc32 p.counters.flagged
                        else p.counters.flagged } } }))
            ∧ (∀ old, r.state = .taken → r.pending = some old → exec .captureFormed s = .next
              ((u.withTable (s.table.map (fun q => if q.line = r.line then
                { r with pending := some { old with double := true } } else q))).withPass
                { s.pass with
                context := some
                  { p with counters :=
                    { p.counters with
                      delivered := inc32 p.counters.delivered
                      doubles := inc32 p.counters.doubles } } }))))

/-- CAPTURE_FORMED while reference control is WAITING (08 R145 to R148, 02 R34): a capture whose bracket is
before the valid-from sample is discarded and counted; one without motion ends the wait FAILED_NO_MOTION
and moves no count; any other re-bases XL and XR, clears the previous check X and ends the wait DONE. The
target is that of the motion's own half when it is present, else the other half's. The result keeps the
capture's bracket, direction, marks, reference, X, yaw, R_eff and W_eff (section 8.1). That the test of the
bracket alone decides, also for a pulse accepted before the REREF whose bracket begins at the sample after
the accepting one, is the model's reading of R145 (log entry 32). -/
def Obligations.CaptureAnswersWait : Prop :=
  ∀ (s u : State) (w : Wait) (b : InFlight) (e0 e1 : WindowEntry) (c : Capture) (n : Nat)
    (kept : RerefCapture),
    s.arrival.ageTick = false → s.arrival.fitBegin = false → s.arrival.resetInstall = .all false →
    s.arrival.check = false → s.arrival.report = false →
    s.newest = some n → s.reref.wait = some w → s.line.inFlight = some b →
    s.axis.entry b.k = some e0 → s.axis.entry (nextIndex b.k) = some e1 →
    c = s.formCapture b.tOff e0 e1 → u = s.withLine { s.line with inFlight := none } →
    kept =
      { k := e0.index, tOff := b.tOff, direction := c.direction, marks := c.marks, ref := c.ref, x := c.x
        yaw := c.yaw, rEff := c.rEff, wEff := c.wEff } →
    (b.k < w.validFrom →
        exec .captureFormed s = .next
          (u.withReref { s.reref with
          wait := some
            { w with discarded := if w.discarded < 65535 then w.discarded + 1 else w.discarded } }))
      ∧ (w.validFrom ≤ b.k → c.direction = .none →
        exec .captureFormed s = .next
          ((u.withReref
            { wait := none
              result := some
                { outcome := .failedNoMotion, line := w.line, accepting := w.accepting, endSample := n
                  discarded := w.discarded, capture := some kept, applied := none } }).raise
            .rerefEnd))
      ∧ (∀ (half : Direction) (target : Int), w.validFrom ≤ b.k →
        (c.direction = .fwd ∧ (w.targetFwd = some target ∧ half = .fwd
            ∨ w.targetFwd = none ∧ w.targetRev = some target ∧ half = .rev)
          ∨ c.direction = .rev ∧ (w.targetRev = some target ∧ half = .rev
            ∨ w.targetRev = none ∧ w.targetFwd = some target ∧ half = .fwd)) →
        ∀ pathXL pathXR dpXL dpXR : Int,
        pathXL = roundDiv (c.pXL * c.wEff) 16777216 → pathXR = roundDiv (c.pXR * c.wEff) 16777216 →
        dpXL = roundDiv ((target - pathXL) * 16777216) c.wEff →
        dpXR = roundDiv ((target - pathXR) * 16777216) c.wEff →
        exec .captureFormed s = .next
          ((((u.withChannels
            { s.channels with
              xl := { s.channels.xl with counter :=
                { s.channels.xl.counter with
                  p := max (-140737488355327) (min 140737488355327 (s.channels.xl.counter.p + dpXL))
                  r0 := c.rEff, epoch := s.channels.xl.counter.epoch + 1, state := .tracking
                  coastRun := 0 } }
              xr := { s.channels.xr with counter :=
                { s.channels.xr.counter with
                  p := max (-140737488355327) (min 140737488355327 (s.channels.xr.counter.p + dpXR))
                  r0 := c.rEff, epoch := s.channels.xr.counter.epoch + 1, state := .tracking
                  coastRun := 0 } } }).withPass { s.pass with prevX := none }).withReref
            { wait := none
              result := some
                { outcome := .done, line := w.line, accepting := w.accepting, endSample := n
                  discarded := w.discarded, capture := some kept
                  applied := some ⟨half, target, pathXL, pathXR, dpXL, dpXR⟩ } }).raise .rerefEnd))

/-- 04 R60, R62 to R65, 05 R76 to R78, 08 R147: the tracker term is usable exactly when a snapshot exists, T
counts, its epoch is the snapshot's and T_path is not 0, and is then ΔT and the rounded ΔR; R_eff is R_host
plus ΔR clamped to 0..1,000,000, W_eff the rounded quotient, a length the sum of the rounded path and
dead-path terms, and X, yaw and Y of the newest sample come from the lengths, valid while their channels are
referenced. W_eff lies within 999,000,999..4,294,967,295, never above W_vac; at an unchanged R0 the
dead-path term is zero; and the correction of a re-base puts the path term of the count at the target to
within half a phase unit, and one picometre for the two roundings. -/
def Obligations.ConversionRangeAndCorrection : Prop :=
  (∀ s : State, 1000000000 ≤ s.air.wVac → s.air.wVac ≤ 4294967295 →
    0 ≤ s.rEff ∧ s.rEff ≤ 1000000 ∧ 999000999 ≤ s.wEff ∧ s.wEff ≤ (s.air.wVac : Int)
      ∧ (s.rEff = 0 → s.wEff = (s.air.wVac : Int)))
    ∧ (∀ d r, deadPathTerm d r r = 0)
    ∧ (∀ p target wEff : Int, 999000999 ≤ wEff → wEff ≤ 4294967295 →
      33554432 * ((pathTerm (p + correctionOf target (pathTerm p wEff) wEff) wEff - target).natAbs : Int)
        ≤ wEff + 33554432)
    ∧ ∀ (s : State) (c : Counter), c = (s.chan .t).counter →
      (∀ dT dR, s.trackerTerm = some (dT, dR) ↔
        ∃ n, s.air.snapshot = some n ∧ c.epoch = n.epoch ∧ c.state ≠ .off ∧ c.state ≠ .dark
          ∧ s.air.tPath ≠ 0 ∧ dT = c.p - n.tSnap ∧ dR = roundDiv (dT * 1000000000) s.air.tPath)
      ∧ (∀ dT dR, s.trackerTerm = some (dT, dR) →
        s.rEff = max 0 (min 1000000 (s.air.rHost + dR)))
      ∧ (s.trackerTerm = none → s.rEff = max 0 (min 1000000 s.air.rHost))
      ∧ s.wEff = roundDiv ((s.air.wVac : Int) * 1000000000) (1000000000 + s.rEff)
      ∧ ∀ len : Channel → Nat → Int,
        (∀ ch d, len ch d = roundDiv ((s.chan ch).counter.p * s.wEff) 16777216
          + roundDiv ((d : Int) * ((s.chan ch).counter.r0 - s.rEff)) 1000) →
        s.position.x = len .xl s.air.dXL
            + roundDiv ((len .xr s.air.dXR - len .xl s.air.dXL) * s.axis.f) 65536
          ∧ s.position.yaw = roundDiv ((len .xr s.air.dXR - len .xl s.air.dXL) * 1000) s.axis.b
          ∧ s.position.y = len .y s.air.dY
          ∧ (s.position.xValid = true ↔ s.referenced .xl = true ∧ s.referenced .xr = true)
          ∧ (s.position.yValid = true ↔ s.referenced .y = true)
          ∧ (s.position.marks.stale = true ↔ s.air.ageLimit * 1000 < s.air.ageMs)
          ∧ (s.position.marks.drift = true ↔
            ∃ dT dR, s.trackerTerm = some (dT, dR) ∧ s.air.driftLimit < dR.natAbs)
          ∧ (s.position.marks.noTracker = true ↔ s.trackerTerm = none)

/-! ### The fit unit's events -/

/-- FIT_BEGIN and SLOT_FILL (03 R42, R43, R46, R52): the fit's first sample fills an empty accumulator and
starts the timer with the timeout in force, or ends the fit ABANDONED_SIGNAL when its channel is COASTING
or DARK; an empty slot takes the oldest waiting request. Not due, nothing happens (log entry 3). -/
def Obligations.FitBeginsAndSlotFills : Prop :=
  ∀ s : State,
    (s.arrival.fitBegin = false → exec .fitBegin s = .next s)
      ∧ (∀ r m k, s.arrival.fitBegin = true → s.fit.working = some r → s.newest = some k →
        s.arrival.samples.get r.channel = some m →
        (((s.chan r.channel).counter.state = .unreferenced
            ∨ (s.chan r.channel).counter.state = .tracking) →
          (m.step.getD 0).natAbs < 4096 →
          exec .fitBegin s = .next
            ((s.withFit
              { s.fit with
                timer := some { firstSample := k, timeoutMs := s.fit.timeoutMs }
                acc :=
                  { observed := 1, unclipped := if m.clipped then 0 else 1
                    travel := (m.step.getD 0).natAbs
                    extremes := if m.clipped then none else some ⟨m.c, m.c, m.s, m.s, m.s⟩ } }).withArrival
              { s.arrival with fitBegin := false }))
        ∧ (((s.chan r.channel).counter.state = .coasting ∨ (s.chan r.channel).counter.state = .dark) →
          exec .fitBegin s = .next
            (((s.withFit
              { s.fit with
                working := none, timer := none, acc := ⟨0, 0, 0, none⟩
                result := s.fit.result.set r.channel (some
                  { kind := r.kind.fitKind, origin := r.origin, outcome := .abandonedSignal
                    endSample := k, observed := 0, unclipped := 0, travel := 0, extremes := none
                    halfAxes := none, oldSet := (s.chan r.channel).front.params, newSet := none
                    jump := none, weakOffsets := none }) }).withArrival
              { s.arrival with fitBegin := false }).raise .fitDone)))
      ∧ (s.fit.working ≠ none ∨ s.fit.queue = [] → exec .slotFill s = .next s)
      ∧ (∀ r rest, s.fit.working = none → s.fit.queue = r :: rest →
        exec .slotFill s = .next (s.withFit { s.fit with working := some r, queue := rest }))

/-- SAMPLE_ARRIVAL for a fit that has begun (03 R43, R44, R52): its channel's sample is counted, its
extremes and travel taken, and travel at the required amount stops the timer and makes FIT_COMPLETE due; a
channel left COASTING or DARK ends the fit ABANDONED_SIGNAL with the sample not collected. For a sound fit
unit, in which the working fit's channel has no other request (03 R39; every step keeps it, UnitsStaySound). -/
def Obligations.ArrivalFeedsFit : Prop :=
  ∀ (a : SampleInput) (s : State) (r : FitRequest) (τ : FitTimer) (m : ChannelSample)
    (h : ChannelArrival), s.Quiet → s.FitUnitSound → s.fit.working = some r → s.fit.timer = some τ →
    h = (s.chan r.channel).arrive (a.pairOf r.channel) → h.sample = some m →
    ∃ t, exec (.sampleArrival a) s = .next t
      ∧ ((h.unit.counter.state = .unreferenced ∨ h.unit.counter.state = .tracking) →
        t.fit.working = some r
          ∧ t.fit.acc.observed = s.fit.acc.observed + 1
          ∧ t.fit.acc.unclipped = s.fit.acc.unclipped + (if m.clipped then 0 else 1)
          ∧ t.fit.acc.travel = s.fit.acc.travel + (m.step.getD 0).natAbs
          ∧ (m.clipped = true → t.fit.acc.extremes = s.fit.acc.extremes)
          ∧ (m.clipped = false → s.fit.acc.extremes = none →
            t.fit.acc.extremes = some ⟨m.c, m.c, m.s, m.s, m.s⟩)
          ∧ (∀ e, m.clipped = false → s.fit.acc.extremes = some e →
            t.fit.acc.extremes = some
              { maxC := max e.maxC m.c, minC := min e.minC m.c, maxS := max e.maxS m.s
                minS := min e.minS m.s, sAtMaxC := if e.maxC < m.c then m.s else e.sAtMaxC })
          ∧ (t.arrival.fitComplete = true ↔
            (if r.kind = .long then 16384 else 4096) ≤ t.fit.acc.travel)
          ∧ t.fit.timer = (if (if r.kind = .long then 16384 else 4096) ≤ t.fit.acc.travel then none
            else some τ))
      ∧ ((h.unit.counter.state = .coasting ∨ h.unit.counter.state = .dark) →
        t.fit.working = none ∧ t.fit.timer = none ∧ t.fit.acc = ⟨0, 0, 0, none⟩
          ∧ t.fit.result.get r.channel = some
            { kind := r.kind.fitKind, origin := r.origin, outcome := .abandonedSignal
              endSample := s.arrivingIndex, observed := s.fit.acc.observed
              unclipped := s.fit.acc.unclipped, travel := s.fit.acc.travel
              extremes := s.fit.acc.extremes, halfAxes := none
              oldSet := (s.chan r.channel).front.params, newSet := none, jump := none
              weakOffsets := none }
          ∧ Event.fitDone.mem t.status.sticky = true)

/-- 03 R47: a long fit that is not weak has the floors of the midpoints as offsets and g and σ clamped to
their ranges; a half-axis below the floor, or |sin α| of a half or more, is weak. -/
def Obligations.LongFitFollowsExtremes : Prop :=
  ∀ (floor : Nat) (e : Extremes) (a2 b2 v d : Int), a2 = e.maxC - e.minC → b2 = e.maxS - e.minS →
    v = e.sAtMaxC - Int.fdiv (e.maxS + e.minS) 2 → d = b2 ^ 2 - 4 * v ^ 2 →
    (a2 < 2 * floor ∨ b2 < 2 * floor ∨ b2 ≤ 4 * v.natAbs →
        (longArithmetic floor e).newSet = none
          ∧ (longArithmetic floor e).halfAxes = some (a2, b2)
          ∧ (longArithmetic floor e).weakOffsets =
            some (Int.fdiv (e.maxC + e.minC) 2, Int.fdiv (e.maxS + e.minS) 2))
      ∧ (2 * (floor : Int) ≤ a2 → 2 * (floor : Int) ≤ b2 → 4 * (v.natAbs : Int) < b2 →
        (longArithmetic floor e).halfAxes = some (a2, b2)
          ∧ (longArithmetic floor e).newSet = some
            { offsetC := Int.fdiv (e.maxC + e.minC) 2
              offsetS := Int.fdiv (e.maxS + e.minS) 2
              g := max 16384 (min 65535 (roundDivSqrt (32768 * a2) d))
              sigma := max (-8192) (min 8192 (roundDivSqrt (32768 * (2 * v)) d)) }
          ∧ ((longArithmetic floor e).clamped = true ↔
            roundDivSqrt (32768 * a2) d < 16384 ∨ 65535 < roundDivSqrt (32768 * a2) d
              ∨ roundDivSqrt (32768 * (2 * v)) d < -8192
              ∨ 8192 < roundDivSqrt (32768 * (2 * v)) d))

/-- 03 R48: a short fit whose half-axes, kept doubled, both reach the amplitude floor has a new set: each
offset in force plus (midpoint − offset) / 8, truncated toward zero and clamped to −16..16, with g and σ
kept; it moves toward its midpoint without passing it, and the fit is never clamped. A half-axis below the
floor leaves no new set. -/
def Obligations.ShortFitStepsTowardMidpoint : Prop :=
  ∀ (floor : Nat) (old : EllipseSet) (e : Extremes) (a2 b2 midC midS : Int) (q : Computed),
    q = shortArithmetic floor old e → a2 = e.maxC - e.minC → b2 = e.maxS - e.minS →
    midC = Int.fdiv (e.maxC + e.minC) 2 → midS = Int.fdiv (e.maxS + e.minS) 2 →
    q.halfAxes = some (a2, b2) ∧ q.clamped = false ∧ q.weakOffsets = none
      ∧ (q.newSet = none ↔ a2 < 2 * (floor : Int) ∨ b2 < 2 * (floor : Int))
      ∧ (2 * (floor : Int) ≤ a2 → 2 * (floor : Int) ≤ b2 → q.newSet = some
        { offsetC := old.offsetC + max (-16) (min 16 (Int.tdiv (midC - old.offsetC) 8))
          offsetS := old.offsetS + max (-16) (min 16 (Int.tdiv (midS - old.offsetS) 8))
          g := old.g, sigma := old.sigma })
      ∧ ∀ new, q.newSet = some new →
        new.g = old.g ∧ new.sigma = old.sigma
          ∧ ∀ o mid n : Int,
            (o = old.offsetC ∧ mid = midC ∧ n = new.offsetC
              ∨ o = old.offsetS ∧ mid = midS ∧ n = new.offsetS) →
            (n - o).natAbs ≤ 16 ∧ 8 * (n - o).natAbs ≤ (mid - o).natAbs
              ∧ (o ≤ mid → o ≤ n ∧ n ≤ mid) ∧ (mid ≤ o → mid ≤ n ∧ n ≤ o)
              ∧ ((mid - o).natAbs < 136 → (mid - o).natAbs < 8 * ((n - o).natAbs + 1))

/-- FIT_COMPLETE (03 R44, R47 to R49, R54, 02 R35): a new set with a jump within 64 is installed and the
counter's last phase is the sample's phase under it; a larger jump, or no new set, leaves the channel as
it is. The slot empties, the record is replaced, FIT_DONE is raised. Not due, nothing happens (log entry
3). The arithmetic of a LONG fit is LongFitFollowsExtremes, of a SHORT one ShortFitStepsTowardMidpoint with
the set in force; without an unclipped sample there is no new set and no half-axis. -/
def Obligations.FitCompletes : Prop :=
  (∀ (floor : Nat) (old : EllipseSet) (e : Extremes),
    fitArithmetic .long floor old (some e) = longArithmetic floor e
      ∧ fitArithmetic .short floor old (some e) = shortArithmetic floor old e
      ∧ ∀ kind, fitArithmetic kind floor old none =
        { halfAxes := none, newSet := none, clamped := false, weakOffsets := none })
  ∧ ∀ s : State,
    (s.arrival.fitComplete = false → exec .fitComplete s = .next s)
      ∧ (∀ (r : FitRequest) (m : ChannelSample) (k : Nat) (q : Computed) (base : FitResult) (u : ChannelUnit),
        s.arrival.fitComplete = true → s.fit.working = some r → s.newest = some k →
        s.arrival.samples.get r.channel = some m → u = s.chan r.channel →
        q = fitArithmetic r.kind u.counter.floor u.front.params s.fit.acc.extremes →
        base =
          { kind := r.kind.fitKind, origin := r.origin, outcome := .rejectedWeak, endSample := k
            observed := s.fit.acc.observed, unclipped := s.fit.acc.unclipped
            travel := s.fit.acc.travel, extremes := s.fit.acc.extremes, halfAxes := q.halfAxes
            oldSet := u.front.params, newSet := q.newSet, jump := none
            weakOffsets := q.weakOffsets } →
        ∃ t, exec .fitComplete s = .next t
          ∧ t.fit.working = none ∧ t.fit.timer = none ∧ t.fit.acc = ⟨0, 0, 0, none⟩
          ∧ t.fit.queue = s.fit.queue ∧ t.fit.pendingReset = s.fit.pendingReset
          ∧ Event.fitDone.mem t.status.sticky = true
          ∧ (∀ ch, ch ≠ r.channel →
            t.chan ch = s.chan ch ∧ t.fit.result.get ch = s.fit.result.get ch)
          ∧ (q.newSet = none →
            t.chan r.channel = u ∧ t.fit.result.get r.channel = some base)
          ∧ (∀ (new : EllipseSet) (d : Int), q.newSet = some new →
            -512 ≤ d → d ≤ 511 →
            ((pairPhase new u.front.sense m.c m.s : Int)
              - (pairPhase u.front.params u.front.sense m.c m.s : Int) - d) % 1024 = 0 →
            (64 < d.natAbs → t.chan r.channel = u
                ∧ t.fit.result.get r.channel = some
                  { base with outcome := .rejectedJump, jump := some d, weakOffsets := none })
              ∧ (d.natAbs ≤ 64 →
                t.chan r.channel =
                  { front := { u.front with params := new }
                    counter :=
                      { u.counter with lastPhase := pairPhase new u.front.sense m.c m.s } }
                ∧ t.fit.result.get r.channel = some
                  { base with
                    outcome := if q.clamped then .appliedClamped else .applied
                    jump := some d
                    weakOffsets := none })))

/-- 03 R49, R51, 02 R26, R35: no event of the fit unit moves a count, a step, an epoch or a channel state. -/
def Obligations.FitEventsKeepCounts : Prop :=
  ∀ (s : State) (ch : Channel) (i : Instr),
    i ∈ [.fitBegin, .slotFill, .fitComplete, .fitTimerExpiry, .resetInstall ch] →
    ∃ t, exec i s = .next t
      ∧ ∀ c, (t.chan c).counter.p = (s.chan c).counter.p
        ∧ (t.chan c).counter.lastStep = (s.chan c).counter.lastStep
        ∧ (t.chan c).counter.epoch = (s.chan c).counter.epoch
        ∧ (t.chan c).counter.state = (s.chan c).counter.state

/-- FIT_TIMER_EXPIRY and REREF_TIMER_EXPIRY (03 R45, 08 R142, R148): the working fit ends
ABANDONED_TIMEOUT, the wait FAILED_TIMEOUT. The fit timer's expiry may come from the last arrival before
its instant on (the model's reading, log entry 12); before that, without a running timer or a working fit,
and when not due, nothing happens (log entry 3). -/
def Obligations.TimersExpire : Prop :=
  ∀ s : State,
    (∀ r first ms k, s.arrival.fitComplete = false → s.fit.working = some r →
      s.fit.timer = some { firstSample := first, timeoutMs := ms } → s.newest = some k →
      (k + 1 < first + ms * 10000 → exec .fitTimerExpiry s = .next s)
        ∧ (first + ms * 10000 ≤ k + 1 →
          exec .fitTimerExpiry s = .next
            ((s.withFit
              { s.fit with
                working := none, timer := none, acc := ⟨0, 0, 0, none⟩
                result := s.fit.result.set r.channel (some
                  { kind := r.kind.fitKind, origin := r.origin, outcome := .abandonedTimeout
                    endSample := k, observed := s.fit.acc.observed
                    unclipped := s.fit.acc.unclipped, travel := s.fit.acc.travel
                    extremes := s.fit.acc.extremes, halfAxes := none
                    oldSet := (s.chan r.channel).front.params, newSet := none, jump := none
                    weakOffsets := none }) }).raise .fitDone)))
      ∧ (s.fit.timer = none ∨ s.fit.working = none ∨ s.arrival.fitComplete = true ∨ s.newest = none →
        exec .fitTimerExpiry s = .next s)
      ∧ (s.arrival.rerefExpiry = false → exec .rerefTimerExpiry s = .next s)
      ∧ (∀ w k, s.arrival.rerefExpiry = true → s.reref.wait = some w → s.newest = some k →
        exec .rerefTimerExpiry s = .next
          (((s.withArrival { s.arrival with rerefExpiry := false }).withReref
            { wait := none
              result := some
                { outcome := .failedTimeout, line := w.line, accepting := w.accepting
                  endSample := k, discarded := w.discarded, capture := none
                  applied := none } }).raise .rerefEnd))

/-- RESET_INSTALL (03 R51, R54): at the channel's arrival a pending reset installs the nominal set, as a
swap with the sample's phase where the channel is UNREFERENCED or TRACKING, without a phase where it is
COASTING or DARK; no jump is too large. Not due, nothing happens (log entry 3). -/
def Obligations.ResetInstalls : Prop :=
  ∀ (s : State) (ch : Channel),
    (s.arrival.resetInstall.get ch = false → exec (.resetInstall ch) s = .next s)
      ∧ (∀ (m : ChannelSample) (k : Nat) (u : ChannelUnit) (nominal : EllipseSet),
        nominal = ⟨0, 0, 32768, 0⟩ → s.arrival.resetInstall.get ch = true → s.newest = some k →
        s.arrival.samples.get ch = some m → u = s.chan ch →
        ∃ t, exec (.resetInstall ch) s = .next t
          ∧ t.fit.pendingReset.get ch = false ∧ t.fit.working = s.fit.working
          ∧ t.fit.queue = s.fit.queue ∧ Event.fitDone.mem t.status.sticky = true
          ∧ (∀ c, c ≠ ch → t.chan c = s.chan c)
          ∧ ∃ q, t.fit.result.get ch = some q ∧ q.kind = .reset ∧ q.origin = .host
            ∧ q.outcome = .applied ∧ q.endSample = k ∧ q.oldSet = u.front.params
            ∧ q.newSet = some nominal ∧ q.extremes = none
            ∧ (u.counter.state = .unreferenced ∨ u.counter.state = .tracking →
              t.chan ch =
                { front := { u.front with params := nominal }
                  counter :=
                    { u.counter with lastPhase := pairPhase nominal u.front.sense m.c m.s } }
              ∧ ∃ d, q.jump = some d ∧ -512 ≤ d ∧ d ≤ 511
                ∧ ((pairPhase nominal u.front.sense m.c m.s : Int)
                  - (pairPhase u.front.params u.front.sense m.c m.s : Int) - d) % 1024 = 0)
            ∧ (u.counter.state = .coasting ∨ u.counter.state = .dark →
              t.chan ch = { u with front := { u.front with params := nominal } } ∧ q.jump = none))

/-! ### The drive port -/

/-- REPORT_EXPIRY and DRIVE_FRAME_END (10 R169 to R171, R179): the timer starts again, the sequence number
counts on, and the frame is 32 bytes with the fresh, held or zero value of each part, its flags and the
marks of this conversion, closed by the CRC of R155; the end of the frame leaves the port idle. Its bytes
leave on the data line most significant bit first. Not due, nothing happens (log entry 3). -/
def Obligations.ReportFormsFrame : Prop :=
  (∀ s : State, s.arrival.report = false → exec .reportExpiry s = .next s)
    ∧ (∀ s : State, s.Quiet →
      exec .driveFrameEnd s = .next (s.withDrive { s.drive with sending := none }))
    ∧ (∀ s : State, s.drive.sending = none → s.driveBits = none)
    ∧ (∀ (s : State) (f : Bytes), s.drive.sending = some f → ∃ bits, s.driveBits = some bits
      ∧ bits.length = 8 * f.length
      ∧ ∀ (i j : Nat) (b : Byte), f[i]? = some b → j < 8 →
        bits[8 * i + j]? = some (b.toNat.testBit (7 - j)))
    ∧ ∀ (s : State) (k : Nat) (xValid yValid : Bool) (x yaw y : Int) (body : Bytes),
      s.arrival.report = true → s.arrival.ageTick = false → s.newest = some k →
      xValid = (s.referenced .xl && s.referenced .xr) → yValid = s.referenced .y →
      (xValid = true → x = s.position.x ∧ yaw = s.position.yaw) →
      (xValid = false → s.drive.lastXYaw = none → x = 0 ∧ yaw = 0) →
      (∀ a b, xValid = false → s.drive.lastXYaw = some (a, b) → x = a ∧ yaw = b) →
      (yValid = true → y = s.position.y) → (yValid = false → y = s.drive.lastY.getD 0) →
      body = sentU 2 s.drive.seq.toNat ++ sentU 8 k ++ sentS 6 x ++ sentS 4 yaw ++ sentS 6 y
        ++ [BitVec.ofNat 8 ((if xValid then 1 else 0)
            + (if xValid = false ∧ s.drive.lastXYaw ≠ none then 2 else 0)
            + (if yValid then 4 else 0) + (if yValid = false ∧ s.drive.lastY ≠ none then 8 else 0))]
        ++ [BitVec.ofNat 8 ((if s.air.ageLimit * 1000 < s.air.ageMs then 2 else 0)
            + (if s.driftNow then 4 else 0) + (if s.trackerTerm = none then 8 else 0))]
        ++ [0] →
      body.length = 29
        ∧ exec .reportExpiry s = .next
          ((s.withArrival { s.arrival with report := false }).withDrive
            { s.drive with
              timer := 0, seq := s.drive.seq + 1
              lastXYaw := if xValid then some (x, yaw) else s.drive.lastXYaw
              lastY := if yValid then some y else s.drive.lastY
              sending := some (0xA7 :: body
                ++ [BitVec.ofNat 8 ((crcOf body).toNat / 256),
                  BitVec.ofNat 8 ((crcOf body).toNat % 256)]) })

/-! ### Resets and pins -/

/-- POWER_ON_RESET (01 R14 and the reset tables of every block): every value is the spec's, whatever was
before, and the station address is read from the straps. -/
def Obligations.PowerOnResetValues : Prop :=
  State.reset.HasResetValues
    ∧ ∀ (straps : Nat) (s : State), ∃ t, exec (.powerOnReset straps) s = .next t
      ∧ t.HasResetValues ∧ t.HasStation straps

/-- RESTART_LINE and RESTART_TAKEN (09 R164, R165, R167 and each block's rule): the transition from inactive
to active, or the end of a RESTART's reply, restarts every block; a line held active or returning to
inactive does nothing. Two clauses are the model's choice: a RESTART_TAKEN that is not due does nothing (log
entry 3), and the samples toward the next millisecond of the age start again (log entry 22). -/
def Obligations.RestartReachesEveryBlock : Prop :=
  ∀ (straps : Nat) (s : State),
    (s.Quiet → s.restartLine = false →
        ∃ t, exec (.restartLine true straps) s = .next t ∧ s.RestartedFrom t straps
          ∧ t.restartLine = true)
      ∧ (s.Quiet → exec (.restartLine false straps) s = .next (s.withRestartLine false))
      ∧ (s.Quiet → s.restartLine = true → exec (.restartLine true straps) s = .next s)
      ∧ (s.QuietArrival → s.arrival.baud = none → s.arrival.restart = true →
        ∃ t, exec (.restartTaken straps) s = .next t ∧ s.RestartedFrom t straps
          ∧ t.arrival.restart = false)
      ∧ (s.arrival.restart = false → exec (.restartTaken straps) s = .next s)

/-! ### The link -/

/-- RECEIVE_CHARACTER and GAP_EXPIRY, the receiver's table (09 R152 to R155, R161): each state's action on a
character with a good stop bit; a character error or a gap discards the frame in reception and is counted
outside HUNT only. A byte enters the CRC most significant bit first, each bit one step of the division by
x^16 + x^12 + x^5 + 1; the CRC of bytes starts at 0xFFFF. -/
def Obligations.ReceiverStateTable : Prop :=
  (∀ (crc : BitVec 16) (b : Byte), crcByte crc b =
      [7, 6, 5, 4, 3, 2, 1, 0].foldl
        (fun (r : BitVec 16) i =>
          if r.getLsbD 15 != b.getLsbD i then (r <<< 1) ^^^ 0x1021 else r <<< 1) crc)
  ∧ (∀ bs : Bytes, crcOf bs = bs.foldl crcByte 0xFFFF)
  ∧ ∀ (s : State) (v : Byte) (rx : Receiver), s.Quiet → rx = s.link.rx →
    (rx.state = .hunt → v ≠ 0xD2 → exec (.receiveCharacter v true) s = .next s)
      ∧ (rx.state = .hunt → v = 0xD2 → exec (.receiveCharacter v true) s = .next
        (s.withRx { state := .address, address := 0, len := 0, payload := [], high := 0, crc := 0xFFFF }))
      ∧ (rx.state = .address → exec (.receiveCharacter v true) s = .next
        (s.withRx { rx with state := .length, address := v, crc := crcByte rx.crc v }))
      ∧ (rx.state = .length → 1 ≤ v.toNat → v.toNat ≤ 250 →
        exec (.receiveCharacter v true) s = .next
          (s.withRx { rx with state := .payload, len := v.toNat, crc := crcByte rx.crc v }))
      ∧ (rx.state = .length → v = 0 ∨ 251 ≤ v.toNat →
        exec (.receiveCharacter v true) s = .next
          ((s.withLink
            { s.link with
              rx := ⟨.hunt, 0, 0, [], 0, 0⟩
              counters := { s.link.counters with lengthErrors :=
                if s.link.counters.lengthErrors < 65535 then s.link.counters.lengthErrors + 1
                else s.link.counters.lengthErrors } }).raise .linkFault))
      ∧ (rx.state = .payload → exec (.receiveCharacter v true) s = .next
        (s.withRx
          { rx with
            state := if rx.payload.length + 1 < rx.len then .payload else .crcHigh
            payload := rx.payload ++ [v], crc := crcByte rx.crc v }))
      ∧ (rx.state = .crcHigh → exec (.receiveCharacter v true) s = .next
        (s.withRx { rx with state := .crcLow, high := v }))
      ∧ (rx.state = .crcLow → rx.crc.toNat ≠ 256 * rx.high.toNat + v.toNat →
        exec (.receiveCharacter v true) s = .next
          ((s.withLink
            { s.link with
              rx := ⟨.hunt, 0, 0, [], 0, 0⟩
              counters := { s.link.counters with crcErrors :=
                if s.link.counters.crcErrors < 65535 then s.link.counters.crcErrors + 1
                else s.link.counters.crcErrors } }).raise .linkFault))
      ∧ (rx.state = .hunt → exec (.receiveCharacter v false) s = .next s)
      ∧ (rx.state ≠ .hunt → exec (.receiveCharacter v false) s = .next
          ((s.withLink
            { s.link with
              rx := ⟨.hunt, 0, 0, [], 0, 0⟩
              counters := { s.link.counters with characterErrors :=
                if s.link.counters.characterErrors < 65535 then s.link.counters.characterErrors + 1
                else s.link.counters.characterErrors } }).raise .linkFault))
      ∧ (rx.state = .hunt → exec .gapExpiry s = .next s)
      ∧ (rx.state ≠ .hunt → exec .gapExpiry s = .next
          ((s.withLink
            { s.link with
              rx := ⟨.hunt, 0, 0, [], 0, 0⟩
              counters := { s.link.counters with gapAborts :=
                if s.link.counters.gapAborts < 65535 then s.link.counters.gapAborts + 1
                else s.link.counters.gapAborts } }).raise .linkFault))

/-- 11 sections 11.1 to 11.3, R177: reading the payload of a well-formed request gives the request and its
tag, every field at every value its width admits. -/
def Obligations.DecodeOfEncodedPayload : Prop :=
  ∀ (tag : Byte) (r : Request), r.wellFormed = true →
    decodePayload (encodePayload tag r) = .request tag r
      ∧ requestLen r.code.toNat = some (encodePayload tag r).length

/-- 09 R152, R155 to R158: the characters of a well-formed request frame, received one by one by a part
whose receiver is in HUNT and that owes nothing, do what the request's own command does, whatever the
address and whatever is in service or in the buffer. -/
def Obligations.FrameBytesEqualRequest : Prop :=
  ∀ (i : Instr) (h : Header) (r : Request) (s : State), i.request = some (h, r) →
    r.wellFormed = true → s.Quiet → s.link.rx = Receiver.hunting →
    receiveAll (linkFrame h.address (encodePayload h.tag r)) s = exec i s

/-- 09 R156, R157: a request to another station's address, or to address 0, is ignored; with a request in
service it is kept in the empty buffer and HOLD is asserted; with the buffer full it is an overrun. The same
holds of a frame whose payload has an unknown code or a wrong length. -/
def Obligations.RequestAddressedAndBuffered : Prop :=
  ∀ (i : Instr) (address : Byte) (payload : Bytes) (s : State),
    ((∃ h r, i.request = some (h, r) ∧ address = h.address ∧ payload = encodePayload h.tag r)
      ∨ ∃ code rest, i = .unknownRequest address payload ∧ payload = code :: rest ∧ rest.length ≤ 249
        ∧ requestLen code.toNat ≠ some (rest.length + 1)) →
    s.Quiet →
    (¬s.Addressed address → exec i s = .next s)
      ∧ (s.Addressed address → s.link.inService ≠ none → s.link.buffer = none →
        ∃ t, exec i s = .next t ∧ t.hold = true
          ∧ t = s.withLink { s.link with
          buffer := some
            { own := decide (s.link.station = some address), payload := payload } })
      ∧ (s.Addressed address → s.link.inService ≠ none → s.link.buffer ≠ none →
        exec i s = .next
          ((s.withLink
            { s.link with counters := { s.link.counters with overruns :=
                if s.link.counters.overruns < 65535 then s.link.counters.overruns + 1
                else s.link.counters.overruns } }).raise .linkFault))

/-- 09 R158, R159: a request to the group or to all stations changes the part as the same request to the
station does, and is not answered. LINK_SET and RESTART, whose effect waits for the reply's end, are left
to their own statement. -/
def Obligations.GroupRequestServedAlike : Prop :=
  ∀ (i j : Instr) (h g : Header) (r : Request) (s : State), i.request = some (h, r) →
    j.request = some (g, r) → s.Quiet → s.link.inService = none →
    s.link.station = some h.address → s.link.station ≠ some g.address → s.Addressed g.address →
    r ≠ .restart → (∀ rate group, r ≠ .linkSet rate group) →
    ∃ t, exec i s = .next t ∧ t.link.inService ≠ none
      ∧ exec j s = .next (t.withLink { t.link with inService := none })

/-- REPLY_SENT, BAUD_CHANGE and BUFFERED_FRAME_SERVICE (09 R157 to R159, R163, R164): the request leaves
service, what its reply's end brings becomes due, a new divisor is taken. A buffered frame enters service and
empties the buffer: an own request as its command does, with its reply in service; a group or all-station
request as its command does, not answered; a frame that is no request of the catalogue answered UNKNOWN or
LENGTH when own, and without any effect when not. The tag of a one-byte payload is open (log entry 8). A
reply is on the reply line while it is in service, each character a start bit, its data bits least
significant first and a stop bit (R151, R159). Not due, nothing happens (log entry 3). -/
def Obligations.ReplyEndReleasesService : Prop :=
  ∀ s : State,
    (s.Quiet → s.link.inService = none → exec .replySent s = .next s)
      ∧ (∀ q, s.Quiet → s.link.inService = some q → q.after = .nothing →
        exec .replySent s = .next (s.withLink { s.link with inService := none }))
      ∧ (∀ q d, s.Quiet → s.link.inService = some q → q.after = .baud d →
        exec .replySent s = .next
          ((s.withLink { s.link with inService := none }).withArrival
            { s.arrival with baud := some d }))
      ∧ (∀ q, s.Quiet → s.link.inService = some q → q.after = .restart →
        exec .replySent s = .next
          ((s.withLink { s.link with inService := none }).withArrival
            { s.arrival with restart := true }))
      ∧ (s.arrival.baud = none → exec .baudChange s = .next s)
      ∧ (∀ d, s.arrival.baud = some d → exec .baudChange s = .next
        ((s.withLink { s.link with divisor := d }).withArrival { s.arrival with baud := none }))
      ∧ (s.link.inService = none → s.replyBits = none)
      ∧ (∀ q, s.link.inService = some q → s.replyBits = some
        ((linkFrame q.reply.address
          (q.reply.code :: q.reply.tag :: BitVec.ofNat 8 q.reply.status.code :: q.reply.data)).flatMap
          (fun b => [false, b.getLsbD 0, b.getLsbD 1, b.getLsbD 2, b.getLsbD 3, b.getLsbD 4, b.getLsbD 5,
            b.getLsbD 6, b.getLsbD 7, true])))
      ∧ (s.link.buffer = none ∨ s.link.inService ≠ none → exec .bufferedFrameService s = .next s)
      ∧ (s.QuietArrival → s.arrival.baud = none → s.arrival.restart = false → s.link.inService = none →
        ∀ (h : Header) (u : State), u = s.withLink { s.link with buffer := none } →
        (∀ (i : Instr) (r : Request), i.request = some (h, r) → r.wellFormed = true →
          s.link.station = some h.address →
          s.link.buffer = some { own := true, payload := encodePayload h.tag r } →
          exec .bufferedFrameService s = exec i u
            ∧ ∃ t q, exec .bufferedFrameService s = .next t ∧ t.link.inService = some q
              ∧ t.link.buffer = none ∧ t.hold = false ∧ q.reply.address = h.address
              ∧ q.reply.code = r.code ∧ q.reply.tag = h.tag)
        ∧ (∀ (i : Instr) (r : Request), i.request = some (h, r) → r.wellFormed = true →
          s.link.station ≠ some h.address → s.Addressed h.address →
          s.link.buffer = some { own := false, payload := encodePayload h.tag r } →
          exec .bufferedFrameService s = exec i u
            ∧ ∃ t, exec .bufferedFrameService s = .next t ∧ t.link.inService = none
              ∧ t.link.buffer = none ∧ t.hold = false)
        ∧ ∀ (code : Byte) (rest : Bytes) (own : Bool) (st : Status),
          (requestLen code.toNat = none ∧ st = .unknown
            ∨ st = .length ∧ ∃ n, requestLen code.toNat = some n ∧ n ≠ rest.length + 1) →
          s.link.buffer = some { own := own, payload := code :: rest } →
          (own = true → s.link.station = some h.address → rest.head? = some h.tag →
              exec .bufferedFrameService s = .next (u.answered h code st []))
            ∧ (own = true → s.link.station = some h.address → rest = [] → ∃ tag,
              exec .bufferedFrameService s = .next (u.answered ⟨h.address, tag⟩ code st []))
            ∧ (own = false → exec .bufferedFrameService s = .next (u.withFreeCount (s.freeCount + 1))))

/-- UNKNOWN_REQUEST (09 R156, R158): an unknown code is answered UNKNOWN, a known code with a wrong length
LENGTH, and nothing else changes. The tag of a one-byte payload is open (log entry 8). Sent to the group or
to all stations it is not answered, and only the model's counter of free values moves; another address, a
busy service and a full buffer are RequestAddressedAndBuffered. A payload that no such frame carries, empty,
over 250 bytes or a request of the catalogue, changes nothing (the model's choice, log entry 15). -/
def Obligations.UnknownRequestAnswered : Prop :=
  (∀ (s : State) (address code : Byte) (rest : Bytes), s.Quiet → s.link.inService = none →
    s.link.station ≠ some address → s.Addressed address → rest.length ≤ 249 →
    requestLen code.toNat ≠ some (rest.length + 1) →
    exec (.unknownRequest address (code :: rest)) s = .next (s.withFreeCount (s.freeCount + 1)))
  ∧ (∀ (s : State) (address : Byte) (p : Bytes),
    (p = [] ∨ 250 < p.length ∨ ∃ tag r, Request.wellFormed r = true ∧ p = encodePayload tag r) →
    exec (.unknownRequest address p) s = .next s)
  ∧ ∀ (s : State) (h : Header) (code : Byte) (rest : Bytes), s.Ready h →
    (rest.length ≤ 248 → requestLen code.toNat = none →
        exec (.unknownRequest h.address (code :: h.tag :: rest)) s = .next
          (s.answered h code .unknown []))
      ∧ (∀ n, rest.length ≤ 248 → requestLen code.toNat = some n → n ≠ rest.length + 2 →
        exec (.unknownRequest h.address (code :: h.tag :: rest)) s = .next
          (s.answered h code .length []))
      ∧ (requestLen code.toNat = none → ∃ tag, exec (.unknownRequest h.address [code]) s = .next
          (s.answered ⟨h.address, tag⟩ code .unknown []))
      ∧ (requestLen code.toNat ≠ none → ∃ tag, exec (.unknownRequest h.address [code]) s = .next
          (s.answered ⟨h.address, tag⟩ code .length []))

/-- LINK_COUNTS, LINK_SET and RESTART (09 R151, R162 to R164): the counters are returned and set to 0; a
rate or group out of range is refused, else the group is taken at once and the divisor with the end of the
reply; a RESTART's restart is due at the end of its reply. A request that is not answered takes the divisor
and makes the restart due at its service. -/
def Obligations.LinkRequestsServed : Prop :=
  ∀ (s : State) (h : Header) (rate group : Nat) (d r : Nat),
    (d : Int) = roundDiv 48000000 rate → (r : Int) = roundDiv 48000000 d →
    (s.Ready h →
      exec (.linkCounts h) s = .next
        ((s.withLink { s.link with counters := ⟨0, 0, 0, 0, 0⟩ }).answered h 0x60 .ok
          (sentU 2 s.link.counters.gapAborts ++ sentU 2 s.link.counters.lengthErrors
            ++ sentU 2 s.link.counters.crcErrors ++ sentU 2 s.link.counters.overruns
            ++ sentU 2 s.link.counters.characterErrors ++ [1, h.address, s.link.group]
            ++ sentU 2 s.link.divisor ++ sentU 4 (roundDiv 48000000 s.link.divisor).toNat))
      ∧ (rate < 115200 ∨ 3000000 < rate
          ∨ (group ≠ 0 ∧ (254 < group ∨ group = h.address.toNat)) →
        exec (.linkSet h rate group) s = .next (s.answered h 0x61 .range []))
      ∧ (115200 ≤ rate → rate ≤ 3000000 →
        (group = 0 ∨ (group ≤ 254 ∧ group ≠ h.address.toNat)) →
        16 ≤ d ∧ d ≤ 417
          ∧ exec (.linkSet h rate group) s = .next
            ((s.withLink { s.link with group := BitVec.ofNat 8 group }).answered h 0x61 .ok
              (sentU 2 d ++ sentU 4 r ++ sentB group) (.baud d)))
      ∧ exec (.restart h) s = .next (s.answered h 0x62 .ok [] .restart))
    ∧ (s.Quiet → s.link.inService = none → s.link.station ≠ some h.address →
      s.Addressed h.address →
      (115200 ≤ rate → rate ≤ 3000000 →
        (group = 0 ∨ (group ≤ 254 ∧ ∀ a, s.link.station = some a → group ≠ a.toNat)) →
        exec (.linkSet h rate group) s = .next
          ((s.withLink { s.link with group := BitVec.ofNat 8 group, divisor := d }).withFreeCount
            (s.freeCount + 1)))
      ∧ exec (.restart h) s = .next
        ((s.withArrival { s.arrival with restart := true }).withFreeCount (s.freeCount + 1)))

/-! ### The status unit -/

/-- STATUS, ATTN_MASK and the ATTN line (10 R173 to R175, 11 section 11.2): STATUS returns the set and
empties it; ATTN_MASK takes the twelve selections; ATTN is asserted exactly while an event of the set is
also in the mask. Before sample 0 the index STATUS returns is open (log entry 7). -/
def Obligations.StatusUnitServed : Prop :=
  (∀ s : State, s.attn = true ↔ ∃ e : Event, e.mem s.status.sticky = true ∧ e.mem s.status.mask = true)
    ∧ (∀ (s : State) (e f : Event), f.mem (s.raise e).status.sticky = true ↔
      f = e ∨ f.mem s.status.sticky = true)
    ∧ ∀ (s : State) (h : Header), s.Ready h →
      (∃ k, (∀ n, s.newest = some n → k = n)
        ∧ exec (.status h) s = .next
          ((s.withStatus { s.status with sticky := 0 }).answered h 0x58 .ok
            (sentU 2 s.status.sticky.toNat ++ sentU 2 s.status.mask.toNat ++ sentU 8 k)))
      ∧ ∀ (events : Nat) (m : EventSet), (∀ e : Event, e.mem m = events.testBit e.index) →
        exec (.attnMask h events) s = .next
          ((s.withStatus { s.status with mask := m }).answered h 0x59 .ok (sentU 2 m.toNat))

/-! ### The line table's requests -/

/-- PLACE (06 R97, R98, R96): the tests in their order; a request that passes them adds exactly the new
record, in its place in the order. -/
def Obligations.PlaceServed : Prop :=
  ∀ (s : State) (h : Header) (f : PlaceFields) (ranges fresh order free : Prop) (new : LineRecord),
    s.Ready h → s.TableOrdered →
    (ranges ↔ (-1000000 ≤ f.line ∧ f.line ≤ 1000000)
      ∧ (-2000000000000 ≤ f.nominal ∧ f.nominal ≤ 2000000000000)
      ∧ (100000 ≤ f.halfWidth ∧ f.halfWidth ≤ 1000000000) ∧ f.cls ≤ 7 ∧ f.targetFwd ≤ 255
      ∧ f.targetRev ≤ 255 ∧ f.datum ≤ 1 ∧ (f.initial = 0 ∨ f.initial = 2)) →
    (fresh ↔ ∀ r ∈ s.table, r.line ≠ f.line) →
    (order ↔ ∀ r ∈ s.table,
      (r.line < f.line → r.nominal < f.nominal) ∧ (f.line < r.line → f.nominal < r.nominal)) →
    (free ↔ ∀ r ∈ s.table,
      (r.line < f.line →
        r.nominal + (r.halfWidth : Int) < f.nominal - (f.halfWidth : Int))
      ∧ (f.line < r.line →
        f.nominal + (f.halfWidth : Int) < r.nominal - (r.halfWidth : Int))) →
    new =
      { line := f.line, nominal := f.nominal, halfWidth := f.halfWidth, cls := f.cls
        targetFwd := f.targetFwd, targetRev := f.targetRev, datum := decide (f.datum = 1)
        state := if f.initial = 0 then .dormant
          else if s.pass.context = none then .armed else .primed
        misses := 0, doubles := 0, complete := false, full := false, fwd := none, rev := none
        pending := none } →
    (¬ranges → exec (.place h f) s = .next (s.answered h 0x01 .range []))
      ∧ (ranges → ¬fresh → exec (.place h f) s = .next (s.answered h 0x01 .exists_ []))
      ∧ (ranges → fresh → s.table.length = 2048 →
        exec (.place h f) s = .next (s.answered h 0x01 .tableFull []))
      ∧ (ranges → fresh → s.table.length < 2048 → ¬order →
        exec (.place h f) s = .next (s.answered h 0x01 .order []))
      ∧ (ranges → fresh → s.table.length < 2048 → order → ¬free →
        exec (.place h f) s = .next (s.answered h 0x01 .overlap []))
      ∧ (ranges → fresh → s.table.length < 2048 → order → free →
        ∃ table, exec (.place h f) s = .next ((s.withTable table).answered h 0x01 .ok [])
          ∧ table.Perm (new :: s.table) ∧ table.Pairwise LineRecord.before)

/-- AMEND (06 R100, R101, R95): the tests in their order; a request that passes them gives the record the
values it carries, makes a TAKEN or MISSED record PRIMED when its window changes, re-tests completeness
when a target changes, and leaves every other record and field. -/
def Obligations.AmendServed : Prop :=
  ∀ (s : State) (h : Header) (f : AmendFields) (ranges : Prop), s.Ready h → s.TableOrdered →
    (ranges ↔
      (∀ x, f.nominal = some x → -2000000000000 ≤ x ∧ x ≤ 2000000000000)
      ∧ (∀ x, f.halfWidth = some x → 100000 ≤ x ∧ x ≤ 1000000000)
      ∧ (∀ x, f.cls = some x → x ≤ 7) ∧ (∀ x, f.targetFwd = some x → x ≤ 255)
      ∧ (∀ x, f.targetRev = some x → x ≤ 255) ∧ (∀ x, f.datum = some x → x ≤ 1)) →
    (¬ranges → exec (.amend h f) s = .next (s.answered h 0x02 .range []))
      ∧ (ranges → (∀ r ∈ s.table, r.line ≠ f.line) →
        exec (.amend h f) s = .next (s.answered h 0x02 .notFound []))
      ∧ (ranges → ∀ r ∈ s.table, r.line = f.line →
        ∀ (x : Int) (w : Nat) (order free : Prop) (new : LineRecord) (moved : Bool),
        x = f.nominal.getD r.nominal → w = f.halfWidth.getD r.halfWidth →
        (order ↔ f.nominal = none ∨ ∀ q ∈ s.table,
          (q.line < r.line → q.nominal < x) ∧ (r.line < q.line → x < q.nominal)) →
        (free ↔ ∀ q ∈ s.table,
          (q.line < r.line → q.nominal + (q.halfWidth : Int) < x - (w : Int))
          ∧ (r.line < q.line → x + (w : Int) < q.nominal - (q.halfWidth : Int))) →
        moved = decide ((x ≠ r.nominal ∨ w ≠ r.halfWidth) ∧ (r.state = .taken ∨ r.state = .missed)) →
        new =
          { r with
            nominal := x, halfWidth := w, cls := f.cls.getD r.cls
            targetFwd := f.targetFwd.getD r.targetFwd, targetRev := f.targetRev.getD r.targetRev
            datum := (f.datum.map (fun d => decide (d = 1))).getD r.datum
            state := if moved then .primed else r.state
            pending := if moved then none else r.pending
            complete := new.complete } →
        (f.targetFwd.getD r.targetFwd = r.targetFwd → f.targetRev.getD r.targetRev = r.targetRev →
          new.complete = r.complete) →
        (f.targetFwd.getD r.targetFwd ≠ r.targetFwd ∨ f.targetRev.getD r.targetRev ≠ r.targetRev →
          (new.complete = true ↔ new.TargetsReached)) →
        (r.state = .retired → exec (.amend h f) s = .next (s.answered h 0x02 .state []))
          ∧ (r.state ≠ .retired → ¬order →
            exec (.amend h f) s = .next (s.answered h 0x02 .order []))
          ∧ (r.state ≠ .retired → order → ¬free →
            exec (.amend h f) s = .next (s.answered h 0x02 .overlap []))
          ∧ (r.state ≠ .retired → order → free →
            exec (.amend h f) s = .next
              ((s.withTable (s.table.map (fun q => if q.line = f.line then new else q))).answered h
                0x02 .ok [])))

/-- ARM, DISARM, RETIRE, DROP and CLEAR of one record (06 R96, R99, R102 to R105, and the table of section
6.4): NOT_FOUND for an absent record, STATE or the change of the record in each of its states, and no other
record touched. A FULL record refuses ARM in every state (the model's reading of R102, log entry 27). -/
def Obligations.RecordRequestsServed : Prop :=
  ∀ (s : State) (h : Header) (line : Int), s.Ready h → s.TableOrdered →
    ((∀ r ∈ s.table, r.line ≠ line) →
      exec (.arm h line) s = .next (s.answered h 0x03 .notFound [])
        ∧ exec (.disarm h line) s = .next (s.answered h 0x04 .notFound [])
        ∧ exec (.retire h line) s = .next (s.answered h 0x05 .notFound [])
        ∧ exec (.drop h line) s = .next (s.answered h 0x06 .notFound [])
        ∧ exec (.clear h line) s = .next (s.answered h 0x07 .notFound []))
      ∧ ∀ r ∈ s.table, r.line = line → ∀ put : LineRecord → State,
        (∀ r', put r' = s.withTable (s.table.map (fun q => if q.line = line then r' else q))) →
        (r.state = .retired ∨ r.full = true →
            exec (.arm h line) s = .next (s.answered h 0x03 .state []))
          ∧ (r.full = false → r.state = .dormant →
            exec (.arm h line) s = .next
              ((put { r with state := if s.pass.context = none then .armed else .primed }).answered h
                0x03 .ok []))
          ∧ (r.full = false → r.state ≠ .dormant → r.state ≠ .retired →
            exec (.arm h line) s = .next (s.answered h 0x03 .ok []))
          ∧ (r.state = .retired → exec (.disarm h line) s = .next (s.answered h 0x04 .state []))
          ∧ (r.state = .dormant → exec (.disarm h line) s = .next (s.answered h 0x04 .ok []))
          ∧ (r.state ≠ .retired → r.state ≠ .dormant →
            exec (.disarm h line) s = .next
              ((put { r with state := .dormant, pending := none }).answered h 0x04 .ok []))
          ∧ (r.state = .retired → exec (.retire h line) s = .next (s.answered h 0x05 .ok []))
          ∧ (r.state ≠ .retired →
            exec (.retire h line) s = .next
              ((put { r with state := .retired, pending := none }).answered h 0x05 .ok []))
          ∧ (r.state = .armed ∨ r.state = .taken ∨ r.state = .missed →
            exec (.drop h line) s = .next (s.answered h 0x06 .state []))
          ∧ (r.state = .dormant ∨ r.state = .primed ∨ r.state = .retired →
            exec (.drop h line) s = .next
              ((s.withTable (s.table.filter (fun q => q.line ≠ line))).answered h 0x06 .ok []))
          ∧ (r.state = .taken ∨ r.state = .missed ∨ r.state = .retired →
            exec (.clear h line) s = .next (s.answered h 0x07 .state []))
          ∧ (r.state = .dormant ∨ r.state = .primed ∨ r.state = .armed →
            exec (.clear h line) s = .next
              ((put
                { r with
                  fwd := none, rev := none, misses := 0, doubles := 0, complete := false
                  full := false }).answered h 0x07 .ok []))

/-- CLASS_OP_ARM, CLASS_OP_DISARM, CLASS_OP_RETIRE, CLASS_OP_DROP and CLASS_OP_CLEAR (06 R113): each record
whose class the mask selects is treated as the single request treats it; the reply counts the records
selected, applied and skipped. -/
def Obligations.ClassOpApplies : Prop :=
  ∀ (s : State) (h : Header) (mask : Nat), s.Ready h →
    ∀ q ∈ ([(.classOpArm h mask, fun r =>
          if r.state = .dormant ∧ r.full = false then
            some (some { r with state := if s.pass.context = none then .armed else .primed })
          else none),
        (.classOpDisarm h mask, fun r =>
          if r.state ≠ .dormant ∧ r.state ≠ .retired then
            some (some { r with state := .dormant, pending := none })
          else none),
        (.classOpRetire h mask, fun r =>
          if r.state ≠ .retired then some (some { r with state := .retired, pending := none })
          else none),
        (.classOpDrop h mask, fun r =>
          if r.state = .dormant ∨ r.state = .primed ∨ r.state = .retired then some none else none),
        (.classOpClear h mask, fun r =>
          if (r.state = .dormant ∨ r.state = .primed ∨ r.state = .armed)
              ∧ (r.fwd.isSome = true ∨ r.rev.isSome = true ∨ r.misses ≠ 0 ∨ r.doubles ≠ 0
                ∨ r.complete = true ∨ r.full = true) then
            some (some
              { r with
                fwd := none, rev := none, misses := 0, doubles := 0, complete := false
                full := false })
          else none)] : List (Instr × (LineRecord → Option (Option LineRecord)))),
    ∀ selected applied : Nat,
      selected = (s.table.filter (fun r => mask.testBit r.cls)).length →
      applied =
        (s.table.filter (fun r => mask.testBit r.cls && (q.2 r).isSome)).length →
      applied ≤ selected
        ∧ exec q.1 s = .next
          ((s.withTable (s.table.filterMap (fun r =>
            if mask.testBit r.cls then (q.2 r).getD (some r) else some r))).answered h 0x0B .ok
            (sentU 2 selected ++ sentU 2 applied ++ sentU 2 (selected - applied)))

/-! ### Reading requests -/

/-- READ, FIND, STEP, TABLE_SUMMARY, READ_CHANNEL, FIT_RESULT, READ_AIR, READ_PASS and REREF_RESULT (06 R109
to R112, 02 R36, 03 R55, 04 R72, 07 R129, 08 R149): each is answered, every reply fits its frame, and
nothing but the link's service changes. The data of the last six are the values their rules list, in that
order, most significant byte first and saturating (11 R177); widths and presence bytes that R177 leaves to
be read from the kind of a value are the model's reading (log entry 16). Before sample 0 the index of the
newest sample is open (log entry 7). The data of READ, FIND and STEP are LookupsNameTheRecord. -/
def Obligations.ReadingRequestsChangeNothing : Prop :=
  (∀ (w n : Nat) (i : Int), 1 ≤ w →
    (sentU w n).length = w ∧ beNat (sentU w n) = min n (256 ^ w - 1)
      ∧ (sentS w i).length = w
      ∧ toSigned w (beNat (sentS w i)) =
        max (-((256 ^ w / 2 : Nat) : Int)) (min (((256 ^ w / 2 : Nat) : Int) - 1) i))
  ∧ ∀ (s : State) (h : Header) (line x : Int) (f : StepFields) (ch : Nat), s.Ready h →
    (∀ q ∈ ([(.read h line, 0x08), (.find h x, 0x09), (.stepTable h f, 0x0A), (.tableSummary h, 0x0C),
        (.readChannel h ch, 0x22), (.fitResult h ch, 0x29), (.readAir h, 0x32), (.readPass h, 0x44),
        (.rerefResult h, 0x4A)] : List (Instr × Byte)),
      ∃ (st : Status) (data : Bytes), exec q.1 s = .next (s.answered h q.2 st data)
        ∧ data.length ≤ 247
        ∧ ((q.2 = 0x09 ∨ q.2 = 0x0C ∨ q.2 = 0x32 ∨ q.2 = 0x44 ∨ q.2 = 0x4A) → st = .ok)
        ∧ ((q.2 = 0x22 ∨ q.2 = 0x29) → (st = .ok ↔ ch ≤ 3) ∧ (st = .range ↔ 3 < ch)))
      ∧ (∀ count : (LineRecord → Bool) → Bytes,
        (∀ p, count p = sentU 2 (s.table.filter p).length) →
        exec (.tableSummary h) s = .next (s.answered h 0x0C .ok
          (sentU 2 s.table.length ++ sentU 2 (2048 - s.table.length)
            ++ count (fun r => r.state = .dormant) ++ count (fun r => r.state = .primed)
            ++ count (fun r => r.state = .armed) ++ count (fun r => r.state = .taken)
            ++ count (fun r => r.state = .missed) ++ count (fun r => r.state = .retired)
            ++ count (fun r => r.complete) ++ count (fun r => r.full) ++ count (fun r => r.datum)
            ++ count (fun r => r.cls = 0) ++ count (fun r => r.cls = 1) ++ count (fun r => r.cls = 2)
            ++ count (fun r => r.cls = 3) ++ count (fun r => r.cls = 4) ++ count (fun r => r.cls = 5)
            ++ count (fun r => r.cls = 6) ++ count (fun r => r.cls = 7)
            ++ sentOpt 4 (fun r => sentS 4 r.line) s.table.head?
            ++ sentOpt 4 (fun r => sentS 4 r.line) s.table.getLast?)))
      ∧ ∃ k, (∀ n, s.newest = some n → k = n)
        ∧ ∀ set : EllipseSet → Bytes,
          (∀ e, set e = sentS 2 e.offsetC ++ sentS 2 e.offsetS ++ sentU 2 e.g.toNat
            ++ sentS 2 e.sigma) →
        (∀ (c : Channel) (u : ChannelUnit), channelOfCode ch = some c → u = s.chan c →
          exec (.readChannel h ch) s = .next (s.answered h 0x22 .ok
            (sentU 8 k ++ sentB (if u.counter.state = .off then 0 else 1) ++ sentB u.counter.state.code
              ++ sentS 6 u.counter.p ++ sentS 2 u.counter.lastPhase ++ sentS 2 u.counter.lastStep
              ++ sentU 4 u.counter.epoch.toNat ++ sentS 4 u.counter.r0 ++ sentU 2 u.counter.acquireRun
              ++ sentU 2 u.counter.coastRun ++ sentU 2 u.counter.floor ++ sentU 2 u.counter.coastLimit
              ++ sentB u.counter.trimInterval ++ sentS 6 u.counter.trimTravel ++ set u.front.params
              ++ sentB u.front.source.code ++ sentB u.front.sense.code ++ sentS 2 u.front.synthStep
              ++ sentU 4 u.front.clipCount ++ sentS 2 u.front.phase ++ sentS 2 u.front.amplitude
              ++ sentFlag u.front.clipped)))
        ∧ (∀ (c : Channel) (place : Nat) (acc : Option Accumulator) (position : Option Nat),
          channelOfCode ch = some c →
          ((∃ r, s.fit.working = some r ∧ r.channel = c) ∧ place = 1 ∧ acc = some s.fit.acc
              ∧ position = none
            ∨ (∀ r, s.fit.working = some r → r.channel ≠ c) ∧ place = 2 ∧ acc = none
              ∧ (∃ before r after, s.fit.queue = before ++ r :: after ∧ r.channel = c
                ∧ (∀ q ∈ before, q.channel ≠ c) ∧ position = some (before.length + 1))
            ∨ (∀ r, s.fit.working = some r → r.channel ≠ c) ∧ (∀ q ∈ s.fit.queue, q.channel ≠ c)
              ∧ place = (if s.fit.pendingReset.get c = true then 3 else 0) ∧ acc = none
              ∧ position = none) →
          exec (.fitResult h ch) s = .next (s.answered h 0x29 .ok
            (sentOpt 61 (fun r : FitResult =>
                sentB r.kind.code ++ sentB r.origin.code ++ sentB r.outcome.code ++ sentU 8 r.endSample
                  ++ sentU 4 r.observed ++ sentU 4 r.unclipped ++ sentS 6 r.travel
                  ++ sentOpt 10 (fun e : Extremes => sentS 2 e.maxC ++ sentS 2 e.minC ++ sentS 2 e.maxS
                    ++ sentS 2 e.minS ++ sentS 2 e.sAtMaxC) r.extremes
                  ++ sentOpt 4 (fun ab : Int × Int => sentU 2 ab.1.toNat ++ sentU 2 ab.2.toNat) r.halfAxes
                  ++ set r.oldSet ++ sentOpt 8 set r.newSet ++ sentOpt 2 (sentS 2) r.jump)
                (s.fit.result.get c)
              ++ sentB place
              ++ sentOpt 14 (fun q : Accumulator =>
                sentU 4 q.observed ++ sentU 4 q.unclipped ++ sentS 6 q.travel) acc
              ++ sentOpt 1 sentB position ++ sentU 4 s.fit.timeoutMs)))
        ∧ (∀ (t : Counter) (dT dR : Int) (len : Channel → Bytes), t = (s.chan .t).counter →
          (s.trackerTerm = some (dT, dR) ∨ s.trackerTerm = none ∧ dT = 0 ∧ dR = 0) →
          (∀ c, len c = sentS 6 (s.lengthNow c (s.chan c).counter.p) ++ sentFlag (s.referenced c)) →
          exec (.readAir h) s = .next (s.answered h 0x32 .ok
            (sentS 4 s.air.rHost ++ sentU 4 s.air.ageMs ++ sentU 2 s.air.ageLimit
              ++ sentU 2 s.air.driftLimit
              ++ sentOpt 10 (fun n : Snapshot => sentS 6 n.tSnap ++ sentU 4 n.epoch.toNat) s.air.snapshot
              ++ sentU 4 s.air.tPath ++ sentU 4 s.air.wVac ++ sentU 4 s.air.dXL ++ sentU 4 s.air.dXR
              ++ sentU 4 s.air.dY ++ sentFlag s.air.stale ++ sentFlag s.air.drift ++ sentU 8 k
              ++ sentS 6 t.p ++ sentU 4 t.epoch.toNat ++ sentB t.state.code ++ sentS 6 dT ++ sentS 4 dR
              ++ sentS 4 s.rEff ++ sentU 4 s.wEff.toNat ++ sentB s.position.marks.code
              ++ len .xl ++ len .xr ++ len .y)))
        ∧ (∀ counters : PassCounters → Bytes,
          (∀ n, counters n = sentU 4 n.delivered ++ sentU 4 n.taken ++ sentU 4 n.late
            ++ sentU 4 n.doubles ++ sentU 4 n.strays ++ sentU 4 n.crowded ++ sentU 4 n.flagged) →
          exec (.readPass h) s = .next (s.answered h 0x44 .ok
            (sentB s.pass.mode.code ++ sentS 6 s.pass.startThr ++ sentS 6 s.pass.stopThr
              ++ sentU 2 s.pass.settle ++ sentB (if s.pass.context = none then 0 else 1)
              ++ sentOpt 56 (fun c : PassContext =>
                sentU 4 c.number.toNat ++ sentB c.direction.code ++ sentB c.origin.code
                  ++ sentU 8 c.opening ++ sentS 6 c.xStart ++ sentS 6 c.xFar ++ sentU 2 c.settleRun
                  ++ counters c.counters) s.pass.context
              ++ sentOpt 4 (fun _ : PassContext =>
                sentU 2 (s.table.filter (fun r => r.state = .taken)).length
                  ++ sentU 2 (s.table.filter (fun r => r.state = .missed)).length) s.pass.context
              ++ sentU 4 s.pass.number.toNat ++ sentU 4 s.pass.idleStrays
              ++ sentOpt 6 (sentS 6) s.pass.prevX
              ++ sentOpt 68 (fun m : PassSummary =>
                sentU 4 m.number.toNat ++ sentB m.direction.code ++ sentB m.origin.code
                  ++ sentU 8 m.opening ++ sentU 8 m.closing ++ sentB m.outcome.code
                  ++ sentB m.reason.code ++ sentS 6 m.xStart ++ sentS 6 m.xFar ++ counters m.counters
                  ++ sentU 2 m.misses ++ sentU 2 m.committed) s.pass.last
              ++ sentS 6 s.position.x ++ sentS 4 s.position.yaw ++ sentS 6 s.position.y
              ++ sentFlag s.position.xValid ++ sentFlag s.position.yValid
              ++ sentB s.position.marks.code)))
        ∧ exec (.rerefResult h) s = .next (s.answered h 0x4A .ok
          (sentB (if s.reref.wait = none then 0 else 1)
            ++ sentOpt 46 (fun w : Wait =>
              sentS 4 w.line ++ sentOpt 6 (sentS 6) w.targetFwd ++ sentOpt 6 (sentS 6) w.targetRev
                ++ sentU 2 w.timeoutS ++ sentU 8 (w.accepting + w.timeoutS * 10000000 - k)
                ++ sentU 8 w.accepting ++ sentU 8 w.validFrom ++ sentU 2 w.discarded) s.reref.wait
            ++ sentOpt 92 (fun r : RerefResult =>
              sentB r.outcome.code ++ sentS 4 r.line ++ sentU 8 r.accepting ++ sentU 8 r.endSample
                ++ sentU 2 r.discarded
                ++ sentOpt 33 (fun c : RerefCapture =>
                  sentU 8 c.k ++ sentU 4 c.tOff ++ sentB c.direction.code ++ sentB c.marks.code
                    ++ sentFlag c.ref ++ sentS 6 c.x ++ sentS 4 c.yaw ++ sentS 4 c.rEff
                    ++ sentU 4 c.wEff.toNat) r.capture
                ++ sentOpt 1 (fun a : RerefApplied => sentB a.half.code) r.applied
                ++ sentOpt 6 (fun a : RerefApplied => sentS 6 a.target) r.applied
                ++ sentOpt 12 (fun a : RerefApplied => sentS 6 a.pathXL ++ sentS 6 a.pathXR) r.applied
                ++ sentOpt 12 (fun a : RerefApplied => sentS 6 a.dpXL ++ sentS 6 a.dpXR) r.applied)
              s.reref.result))

/-- READ, FIND and STEP find the record they are asked for (06 R109 to R111, 11 section 11.4): READ by line
number, with 186 bytes of data, its half and pending blocks with the values derived from them; FIND by the
window that holds the position, and outside every window the nearest record on each side; STEP the lowest or
highest line number among the records the mask selects. The widths of FIND and STEP are log entry 16. -/
def Obligations.LookupsNameTheRecord : Prop :=
  ∀ (s : State) (h : Header), s.Ready h → s.TableOrdered →
    (∀ line, (∀ r ∈ s.table, r.line ≠ line) →
        exec (.read h line) s = .next (s.answered h 0x08 .notFound []))
      ∧ (∀ r ∈ s.table, ∃ rest : Bytes, rest.length = 155
        ∧ exec (.read h r.line) s = .next (s.answered h 0x08 .ok
          (sentS 4 r.line ++ sentS 6 r.nominal ++ sentU 4 r.halfWidth ++ sentB r.cls
            ++ sentB r.targetFwd ++ sentB r.targetRev ++ sentFlag r.datum ++ sentB r.state.code
            ++ sentU 2 r.misses ++ sentU 2 r.doubles
            ++ sentB ((if r.complete then 1 else 0) + (if r.full then 2 else 0)) ++ sentB r.presence
            ++ halfBlock r.nominal r.fwd ++ halfBlock r.nominal r.rev ++ pendingBlock r.pending
            ++ sentS 6 (r.fwdMinusRev.getD 0)))
        ∧ rest = halfBlock r.nominal r.fwd ++ halfBlock r.nominal r.rev ++ pendingBlock r.pending)
      ∧ (∀ nominal : Int, halfBlock nominal none = List.replicate 68 0
        ∧ ∀ (q : Half) (meanX meanY : Int), meanX = roundDiv q.sumX q.n →
          meanY = (if q.ny = 0 then 0 else roundDiv q.sumY q.ny) →
          halfBlock nominal (some q) =
            sentU 2 q.n ++ sentS 8 q.sumX ++ sentS 6 q.minX ++ sentS 6 q.maxX ++ sentS 6 q.lastX
              ++ sentU 2 q.ny ++ sentS 8 q.sumY ++ sentU 2 q.flagged ++ sentU 4 q.lastPass.toNat
              ++ sentS 6 meanX ++ sentS 6 (meanX - nominal) ++ sentS 6 meanY
              ++ sentS 6 (q.maxX - q.minX))
      ∧ (pendingBlock none = List.replicate 19 0
        ∧ ∀ p : PendingPart, pendingBlock (some p) =
          sentS 6 p.x ++ sentS 6 (p.y.getD 0)
            ++ sentB ((if p.marks.coasted then 1 else 0) + (if p.marks.stale then 2 else 0)
              + (if p.marks.drift then 4 else 0) + (if p.marks.noTracker then 8 else 0)
              + (if p.marks.noY then 16 else 0))
            ++ sentB (if p.direction = .fwd then 1 else 2) ++ sentU 4 p.pass.toNat
            ++ sentB (if p.double then 1 else 0))
      ∧ (∀ r : LineRecord,
        r.presence = (if r.fwd = none then 0 else 1) + (if r.rev = none then 0 else 2)
            + (if r.pending = none then 0 else 4)
            + (if ∃ q, r.fwd = some q ∧ q.ny ≠ 0 then 8 else 0)
            + (if ∃ q, r.rev = some q ∧ q.ny ≠ 0 then 16 else 0)
            + (if r.fwd = none ∨ r.rev = none then 0 else 32)
          ∧ (∀ a b, r.fwd = some a → r.rev = some b →
            r.fwdMinusRev = some (roundDiv a.sumX a.n - roundDiv b.sumX b.n))
          ∧ (r.fwd = none ∨ r.rev = none → r.fwdMinusRev = none))
      ∧ (∀ (x : Int) (below above : Option LineRecord),
        (∀ r ∈ s.table, x < r.nominal - (r.halfWidth : Int) ∨ r.nominal + (r.halfWidth : Int) < x) →
        (below = none → ∀ r ∈ s.table, ¬r.nominal + (r.halfWidth : Int) < x) →
        (∀ r, below = some r → r ∈ s.table ∧ r.nominal + (r.halfWidth : Int) < x
          ∧ ∀ q ∈ s.table, q.nominal + (q.halfWidth : Int) < x →
            q.nominal + (q.halfWidth : Int) ≤ r.nominal + (r.halfWidth : Int)) →
        (above = none → ∀ r ∈ s.table, ¬x < r.nominal - (r.halfWidth : Int)) →
        (∀ r, above = some r → r ∈ s.table ∧ x < r.nominal - (r.halfWidth : Int)
          ∧ ∀ q ∈ s.table, x < q.nominal - (q.halfWidth : Int) →
            r.nominal - (r.halfWidth : Int) ≤ q.nominal - (q.halfWidth : Int)) →
        exec (.find h x) s = .next (s.answered h 0x09 .ok
          (List.replicate 26 0 ++ sentOpt 10 (fun r => sentS 4 r.line ++ sentS 6 r.nominal) below
            ++ sentOpt 10 (fun r => sentS 4 r.line ++ sentS 6 r.nominal) above)))
      ∧ (∀ (r : LineRecord) (x : Int), r ∈ s.table → r.nominal - (r.halfWidth : Int) ≤ x →
        x ≤ r.nominal + (r.halfWidth : Int) →
        exec (.find h x) s = .next (s.answered h 0x09 .ok
          (sentB 1 ++ sentS 4 r.line ++ sentS 6 r.nominal ++ sentS 6 r.halfWidth ++ sentB r.cls
            ++ sentB r.state.code ++ sentB r.marksCode ++ sentS 6 (x - r.nominal)
            ++ List.replicate 22 0)))
      ∧ (∀ f : StepFields,
        (3 < f.mode ∨ ((f.mode = 2 ∨ f.mode = 3) ∧ (f.line < -1000000 ∨ 1000000 < f.line)) →
          exec (.stepTable h f) s = .next (s.answered h 0x0A .range []))
        ∧ (f.mode ≤ 3 → (f.mode ≤ 1 ∨ (-1000000 ≤ f.line ∧ f.line ≤ 1000000)) →
          ∀ visited : LineRecord → Prop,
          (∀ r, visited r ↔ r ∈ s.table ∧ f.mask.testBit r.cls = true
            ∧ (f.mode = 2 → f.line < r.line) ∧ (f.mode = 3 → r.line < f.line)) →
          ((∀ r, ¬visited r) → exec (.stepTable h f) s = .next (s.answered h 0x0A .notFound []))
            ∧ ∀ r, visited r →
              ((f.mode = 0 ∨ f.mode = 2) → ∀ q, visited q → r.line ≤ q.line) →
              ((f.mode = 1 ∨ f.mode = 3) → ∀ q, visited q → q.line ≤ r.line) →
              exec (.stepTable h f) s = .next (s.answered h 0x0A .ok
                (sentS 4 r.line ++ sentS 6 r.nominal ++ sentS 6 r.halfWidth ++ sentB r.cls
                  ++ sentB r.state.code ++ sentFlag r.datum ++ sentB r.marksCode ++ sentU 2 r.misses
                  ++ sentU 2 r.doubles ++ sentU 2 ((r.fwd.map Half.n).getD 0)
                  ++ sentU 2 ((r.rev.map Half.n).getD 0)))))

/-! ### Requests of the channels and the fit unit -/

/-- CHANNEL_SET and PRESET (02 R30 to R33, 01 R12, R13, 07 R121, 08 R143, R145, 11 R178): the range tests; the
settings taken; enabling from OFF, disabling, and what a disabled XL or XR ends; the count set and the
channel made TRACKING. The reply of CHANNEL_SET echoes its fields (the model's choice, log entry 17). -/
def Obligations.ChannelRequestsServed : Prop :=
  (∀ (s : State) (h : Header) (f : ChannelFields) (ranges : Prop), s.Ready h →
    (ranges ↔ f.channel ≤ 3 ∧ f.enable ≤ 1 ∧ f.source ≤ 1 ∧ f.sense ≤ 1
      ∧ (64 ≤ f.floor ∧ f.floor ≤ 1800) ∧ f.synthStep.natAbs ≤ 2047) →
    (¬ranges → exec (.channelSet h f) s = .next (s.answered h 0x20 .range []))
      ∧ (ranges → ∀ (ch : Channel) (u v : ChannelUnit) (limit : Nat) (st : Status) (data : Bytes),
        channelOfCode f.channel = some ch → u = s.chan ch →
        limit = max 1 (min 1000 f.coastLimit) →
        st = (if 1 ≤ f.coastLimit ∧ f.coastLimit ≤ 1000 then .ok else .adjusted) →
        data = sentB f.channel ++ sentB f.enable ++ sentB f.source ++ sentB f.sense
          ++ sentS 2 f.synthStep ++ sentU 2 f.floor ++ sentU 2 limit ++ sentB f.trimInterval →
        v =
          { front :=
              { u.front with
                source := if f.source = 0 then .detector else .synthetic
                sense := if f.sense = 0 then .normal else .inverted
                synthStep := f.synthStep
                synthAngle := if u.front.source = .detector ∧ f.source = 1 then 0
                  else u.front.synthAngle }
            counter :=
              { u.counter with
                floor := f.floor, coastLimit := limit, trimInterval := f.trimInterval
                trimTravel := 0 } } →
        ((f.enable = 1 ∧ u.counter.state ≠ .off) ∨ (f.enable = 0 ∧ u.counter.state = .off) →
            exec (.channelSet h f) s = .next
              ((s.withChannels (s.channels.set ch v)).answered h 0x20 st data))
          ∧ (f.enable = 1 → u.counter.state = .off → s.WaitHasSignal →
            exec (.channelSet h f) s = .next
              ((s.withChannels (s.channels.set ch
                { front := { v.front with clipCount := 0, synthAngle := 0 }
                  counter :=
                    { v.counter with
                      state := .dark, p := 0, lastPhase := 0, lastStep := 0, acquireRun := 0
                      coastRun := 0, trimTravel := 0, epoch := u.counter.epoch + 1 } })).answered
                h 0x20 st data))
          ∧ (f.enable = 0 → u.counter.state ≠ .off →
            ∃ t, exec (.channelSet h f) s = .next t
              ∧ (∀ c, c ≠ ch → t.chan c = s.chan c ∧ t.fit.result.get c = s.fit.result.get c)
              ∧ (t.chan ch).counter = { v.counter with state := .off, acquireRun := 0, coastRun := 0 }
              ∧ (t.chan ch).front = (if s.fit.pendingReset.get ch = true then
                  { v.front with params := ⟨0, 0, 32768, 0⟩ } else v.front)
              ∧ t.fit.pendingReset.get ch = false
              ∧ t.fit.queue = s.fit.queue.filter (fun r => r.channel ≠ ch)
              ∧ (∀ r, s.fit.working = some r → r.channel = ch →
                t.fit.working = none ∧ t.fit.timer = none ∧ t.fit.acc = ⟨0, 0, 0, none⟩)
              ∧ (ch ∈ s.fit.claims → s.fit.pendingReset.get ch = false →
                ∃ q, t.fit.result.get ch = some q ∧ q.outcome = .abandonedDisabled)
              ∧ (ch = .y ∨ ch = .t → t.pass = s.pass ∧ t.table = s.table ∧ t.reref = s.reref)
              ∧ (ch = .xl ∨ ch = .xr → t.pass.context = none ∧ t.reref.wait = none
                ∧ (s.pass.context ≠ none → Event.passAborted.mem t.status.sticky = true
                  ∧ t.table = s.table.map (fun r =>
                    if r.state = .taken ∨ r.state = .missed then
                      { r with state := .armed, pending := none }
                    else r)
                  ∧ ∃ m, t.pass.last = some m ∧ m.outcome = .aborted ∧ m.reason = .disabled)
                ∧ (s.reref.wait ≠ none → Event.rerefEnd.mem t.status.sticky = true
                  ∧ ∃ m, t.reref.result = some m ∧ m.outcome = .failedSignal)))))
    ∧ ∀ (s : State) (h : Header) (c : Nat) (p : Int), s.Ready h →
      (3 < c ∨ 140737488355327 < p.natAbs →
        exec (.preset h c p) s = .next (s.answered h 0x21 .range []))
      ∧ ∀ (ch : Channel) (u : ChannelUnit), channelOfCode c = some ch → u = s.chan ch →
        p.natAbs ≤ 140737488355327 →
        (u.counter.state = .off ∨ u.counter.state = .dark ∨ u.counter.state = .coasting →
            exec (.preset h c p) s = .next (s.answered h 0x21 .state []))
          ∧ (u.counter.state = .unreferenced ∨ u.counter.state = .tracking →
            s.pass.context ≠ none → (ch = .xl ∨ ch = .xr) →
            exec (.preset h c p) s = .next (s.answered h 0x21 .inPass []))
          ∧ (u.counter.state = .unreferenced ∨ u.counter.state = .tracking →
            (s.pass.context = none ∨ ch = .y ∨ ch = .t) →
            ∀ base, base = s.withChannels (s.channels.set ch
              { u with counter :=
                { u.counter with
                  p := p, r0 := s.rEff, epoch := u.counter.epoch + 1, state := .tracking } }) →
            (s.reref.wait = none ∨ ch = .y ∨ ch = .t →
                exec (.preset h c p) s = .next (base.answered h 0x21 .ok []))
              ∧ (∀ w k, s.reref.wait = some w → (ch = .xl ∨ ch = .xr) → s.newest = some k →
                exec (.preset h c p) s = .next
                  ((base.withReref
                    { s.reref with
                      wait := some
                        { w with validFrom := max w.validFrom (nextIndex k) } }).answered h 0x21 .ok
                    [])))

/-- FIT and FIT_RESET (03 R39, R40, R50, R51, R54): the tests in their order; a request that passes them
enters the empty slot or the tail of the queue; a RESET becomes pending on an UNREFERENCED or TRACKING
channel, is installed at once on any other, and first ends the channel's own request ABANDONED_RESET: the
working fit, or the waiting one, which leaves the queue with the others in their order. -/
def Obligations.FitRequestsServed : Prop :=
  ∀ (s : State) (h : Header) (c kind : Nat), s.Ready h →
    (3 < c ∨ 2 < kind → exec (.fit h c kind) s = .next (s.answered h 0x28 .range []))
      ∧ (3 < c → exec (.fitReset h c) s = .next (s.answered h 0x28 .range []))
      ∧ ∀ (ch : Channel) (u : ChannelUnit) (est : EstimateKind), channelOfCode c = some ch →
        u = s.chan ch → (kind = 0 ∧ est = .long ∨ kind = 1 ∧ est = .short) →
        (u.counter.state = .off ∨ u.counter.state = .dark ∨ u.counter.state = .coasting →
            exec (.fit h c kind) s = .next (s.answered h 0x28 .state []))
          ∧ (u.counter.state = .unreferenced ∨ u.counter.state = .tracking → ch ∈ s.fit.claims →
            exec (.fit h c kind) s = .next (s.answered h 0x28 .busy []))
          ∧ (u.counter.state = .unreferenced ∨ u.counter.state = .tracking → ch ∉ s.fit.claims →
            (s.fit.working = none →
                exec (.fit h c kind) s = .next
                  ((s.withFit { s.fit with working := some ⟨ch, est, .host⟩ }).answered h 0x28
                    .accepted []))
              ∧ (s.fit.working ≠ none →
                exec (.fit h c kind) s = .next
                  ((s.withFit { s.fit with queue := s.fit.queue ++ [⟨ch, est, .host⟩] }).answered h
                    0x28 .accepted [])))
          ∧ (s.fit.pendingReset.get ch = true →
            exec (.fitReset h c) s = .next (s.answered h 0x28 .busy []))
          ∧ (s.fit.pendingReset.get ch = false → ch ∉ s.fit.claims →
            (u.counter.state = .unreferenced ∨ u.counter.state = .tracking →
                exec (.fitReset h c) s = .next
                  ((s.withFit
                    { s.fit with pendingReset := s.fit.pendingReset.set ch true }).answered h 0x28
                    .accepted []))
              ∧ (∀ k, s.newest = some k →
                u.counter.state = .off ∨ u.counter.state = .dark ∨ u.counter.state = .coasting →
                exec (.fitReset h c) s = .next
                  ((((s.withChannels (s.channels.set ch
                    { u with front := { u.front with params := ⟨0, 0, 32768, 0⟩ } })).withFit
                    { s.fit with
                      result := s.fit.result.set ch (some
                        { kind := .reset, origin := .host, outcome := .applied, endSample := k
                          observed := 0, unclipped := 0, travel := 0, extremes := none
                          halfAxes := none, oldSet := u.front.params
                          newSet := some ⟨0, 0, 32768, 0⟩, jump := none
                          weakOffsets := none }) }).raise .fitDone).answered h 0x28 .accepted [])))
          ∧ (∀ r, s.fit.pendingReset.get ch = false → s.fit.working = some r → r.channel = ch →
            ∃ t, exec (.fitReset h c) s = .next t ∧ t.fit.working = none ∧ t.fit.timer = none
              ∧ t.fit.acc = ⟨0, 0, 0, none⟩ ∧ Event.fitDone.mem t.status.sticky = true
              ∧ (t.chan ch).counter = u.counter
              ∧ (u.counter.state = .unreferenced ∨ u.counter.state = .tracking →
                t.chan ch = u ∧ t.fit.pendingReset.get ch = true
                  ∧ ∃ q, t.fit.result.get ch = some q ∧ q.outcome = .abandonedReset))
          ∧ (∀ (before after : List FitRequest) (r : FitRequest) (k : Nat), s.newest = some k →
            s.fit.pendingReset.get ch = false → (∀ q, s.fit.working = some q → q.channel ≠ ch) →
            s.fit.queue = before ++ r :: after → r.channel = ch →
            (∀ q ∈ before ++ after, q.channel ≠ ch) →
            (u.counter.state = .unreferenced ∨ u.counter.state = .tracking →
                exec (.fitReset h c) s = .next
                  (((s.withFit
                    { s.fit with
                      queue := before ++ after
                      pendingReset := s.fit.pendingReset.set ch true
                      result := s.fit.result.set ch (some
                        { kind := r.kind.fitKind, origin := r.origin, outcome := .abandonedReset
                          endSample := k, observed := 0, unclipped := 0, travel := 0
                          extremes := none, halfAxes := none, oldSet := u.front.params
                          newSet := none, jump := none, weakOffsets := none }) }).raise
                    .fitDone).answered h 0x28 .accepted []))
              ∧ (u.counter.state = .off ∨ u.counter.state = .dark ∨ u.counter.state = .coasting →
                exec (.fitReset h c) s = .next
                  ((((s.withChannels (s.channels.set ch
                    { u with front := { u.front with params := ⟨0, 0, 32768, 0⟩ } })).withFit
                    { s.fit with
                      queue := before ++ after
                      result := s.fit.result.set ch (some
                        { kind := .reset, origin := .host, outcome := .applied, endSample := k
                          observed := 0, unclipped := 0, travel := 0, extremes := none
                          halfAxes := none, oldSet := u.front.params
                          newSet := some ⟨0, 0, 32768, 0⟩, jump := none
                          weakOffsets := none }) }).raise .fitDone).answered h 0x28 .accepted [])))

/-! ### Setting requests -/

/-- FIT_SET, AIR_SET, TRACKER_SET, GEOMETRY_SET, LINE_SET, PASS_SET and DRIVE_SET (03 R46, 04 R68 to R71, 05
R75, R81, 07 R125, 10 R168): a value out of range refuses the request or is clamped to the nearer end and
answered ADJUSTED; the values taken are in force and in the reply; nothing else changes. -/
def Obligations.SettingsServed : Prop :=
  ∀ (s : State) (h : Header), s.Ready h →
    (∀ ms t : Nat, t = max 100 (min 60000 ms) →
      exec (.fitSet h ms) s = .next
        ((s.withFit { s.fit with timeoutMs := t }).answered h 0x2A
          (if t = ms then .ok else .adjusted) (sentU 4 t)))
      ∧ (∀ (r : Int) (age drift a d : Nat), a = max 1 (min 3600 age) → d = max 1 (min 10000 drift) →
        (r < 0 ∨ 600000 < r → exec (.airSet h r age drift) s = .next (s.answered h 0x30 .range []))
          ∧ (0 ≤ r → r ≤ 600000 → ∀ snap : Option Snapshot,
            snap = (if (s.chan .t).counter.state = .off ∨ (s.chan .t).counter.state = .dark then none
              else some ⟨(s.chan .t).counter.p, (s.chan .t).counter.epoch⟩) →
            exec (.airSet h r age drift) s = .next
              ((s.withAir
                { s.air with
                  rHost := r, ageMs := 0, ageSamples := 0, ageLimit := a, driftLimit := d
                  snapshot := snap, stale := false, drift := false }).answered h 0x30
                (if a = age ∧ d = drift then .ok else .adjusted)
                (sentS 4 r ++ sentU 2 a ++ sentU 2 d))))
      ∧ (∀ path : Nat,
        ((1 ≤ path ∧ path ≤ 999999) ∨ 2000000001 ≤ path →
          exec (.trackerSet h path) s = .next (s.answered h 0x31 .range []))
        ∧ (path = 0 ∨ (1000000 ≤ path ∧ path ≤ 2000000000) →
          exec (.trackerSet h path) s = .next
            ((s.withAir { s.air with tPath := path }).answered h 0x31 .ok [])))
      ∧ (∀ (g : GeometryFields) (ranges : Prop),
        (ranges ↔ 1000000000 ≤ g.wVac ∧ g.dXL ≤ 2000000 ∧ g.dXR ≤ 2000000 ∧ g.dY ≤ 2000000
          ∧ g.f ≤ 65536 ∧ 10000 ≤ g.b ∧ g.b ≤ 1000000) →
        (¬ranges → exec (.geometrySet h g) s = .next (s.answered h 0x33 .range []))
        ∧ (ranges → s.pass.context ≠ none →
          exec (.geometrySet h g) s = .next (s.answered h 0x33 .inPass []))
        ∧ (ranges → s.pass.context = none →
          exec (.geometrySet h g) s = .next
            (((s.withAir
              { s.air with wVac := g.wVac, dXL := g.dXL, dXR := g.dXR, dY := g.dY }).withAxis
              { s.axis with f := g.f, b := g.b }).answered h 0x33 .ok [])))
      ∧ (∀ (f : LineFields) (lat sp : Nat), lat = min 6300 f.latency →
        sp = max 200 (min 100000 f.spacing) →
        (1 < f.enable ∨ 1 < f.polarity →
          exec (.lineSet h f) s = .next (s.answered h 0x38 .range []))
        ∧ (f.enable ≤ 1 → f.polarity ≤ 1 →
          exec (.lineSet h f) s = .next
            ((s.withLine
              { enable := decide (f.enable = 1)
                polarity := if f.polarity = 0 then .rising else .falling
                latency := lat, spacing := sp
                lastEdge := if f.enable = 1 ∧ s.line.enable = false then none else s.line.lastEdge
                inFlight := if f.enable = 0 ∧ s.line.enable = true then none
                  else s.line.inFlight }).answered h 0x38
              (if lat = f.latency ∧ sp = f.spacing then .ok else .adjusted)
              (sentB f.enable ++ sentB f.polarity ++ sentU 4 lat ++ sentU 4 sp))))
      ∧ (∀ (f : PassFields) (start stop settle : Nat), start = max 100 (min 1000000 f.startThr) →
        stop = max 10 (min start f.stopThr) → settle = max 1 (min 65535 f.settle) →
        (1 < f.mode → exec (.passSet h f) s = .next (s.answered h 0x40 .range []))
        ∧ (f.mode ≤ 1 →
          exec (.passSet h f) s = .next
            ((s.withPass
              { s.pass with
                mode := if f.mode = 0 then .auto else .host
                startThr := start, stopThr := stop, settle := settle }).answered h 0x40
              (if start = f.startThr ∧ stop = f.stopThr ∧ settle = f.settle then .ok else .adjusted)
              (sentB f.mode ++ sentU 4 start ++ sentU 4 stop ++ sentU 2 settle))))
      ∧ (∀ enable period n : Nat, n = max 50 (min 100000 period) →
        (1 < enable → exec (.driveSet h enable period) s = .next (s.answered h 0x50 .range []))
        ∧ (enable = 1 → s.drive.enable = false →
          exec (.driveSet h enable period) s = .next
            ((s.withDrive
              { s.drive with
                enable := true, period := n, timer := 0, seq := 0, lastXYaw := none
                lastY := none }).answered h 0x50 (if n = period then .ok else .adjusted)
              (sentB 1 ++ sentU 4 n)))
        ∧ (enable = 0 ∨ (enable = 1 ∧ s.drive.enable = true) →
          exec (.driveSet h enable period) s = .next
            ((s.withDrive { s.drive with enable := decide (enable = 1), period := n }).answered h 0x50
              (if n = period then .ok else .adjusted) (sentB enable ++ sentU 4 n))))

/-! ### Pass and re-reference requests -/

/-- PASS_OPEN, PASS_CLOSE and PASS_ABORT (07 R120, R122 to R124, R126 to R128): the tests in their order;
the pass opened at the newest sample's X, committed, or discarded. Before sample 0 the index of the newest
sample is open (log entry 7). -/
def Obligations.PassRequestsServed : Prop :=
  ∀ (s : State) (h : Header), s.Ready h →
    ∃ k, (∀ n, s.newest = some n → k = n)
      ∧ (∀ d : Nat,
        (d ≠ 1 ∧ d ≠ 2 → exec (.passOpen h d) s = .next (s.answered h 0x41 .range []))
        ∧ (d = 1 ∨ d = 2 → s.pass.mode = .auto →
          exec (.passOpen h d) s = .next (s.answered h 0x41 .state []))
        ∧ (d = 1 ∨ d = 2 → s.pass.mode = .host → s.pass.context ≠ none →
          exec (.passOpen h d) s = .next (s.answered h 0x41 .inPass []))
        ∧ (d = 1 ∨ d = 2 → s.pass.mode = .host → s.pass.context = none →
          (s.referenced .xl = false ∨ s.referenced .xr = false ∨ s.reref.wait ≠ none) →
          exec (.passOpen h d) s = .next (s.answered h 0x41 .state []))
        ∧ (d = 1 ∨ d = 2 → s.pass.mode = .host → s.pass.context = none → s.referenced .xl = true →
          s.referenced .xr = true → s.reref.wait = none →
          exec (.passOpen h d) s = .next
            (((s.withPass
              { s.pass with
                number := s.pass.number + 1
                context := some
                  { number := s.pass.number + 1, direction := if d = 1 then .fwd else .rev
                    origin := .host, opening := k, xStart := s.position.x, xFar := s.position.x
                    settleRun := 0, counters := ⟨0, 0, 0, 0, 0, 0, 0⟩ } }).withTable
              (s.table.map (fun r =>
                if r.state = .primed then { r with state := .armed } else r))).answered h 0x41 .ok
              (sentU 4 (s.pass.number + 1).toNat))))
      ∧ (s.pass.context = none →
        exec (.passClose h) s = .next (s.answered h 0x42 .state [])
          ∧ exec (.passAbort h) s = .next (s.answered h 0x43 .state []))
      ∧ (∀ c, s.pass.context = some c →
        exec (.passClose h) s = .next
          ((((s.withPass
            { s.pass with
              context := none
              last := some
                { number := c.number, direction := c.direction, origin := c.origin
                  opening := c.opening, closing := k, outcome := .complete
                  reason := .closeRequest, xStart := c.xStart, xFar := c.xFar
                  counters := c.counters
                  misses := (s.table.filter (fun r => r.state = .missed)).length
                  committed := committedCount s.table } }).withTable
            (s.table.map LineRecord.commit)).raise .passDone).answered h 0x42 .ok
            (sentU 4 c.number.toNat))
          ∧ exec (.passAbort h) s = .next
            ((((s.withPass
              { s.pass with
                context := none
                last := some
                  { number := c.number, direction := c.direction, origin := c.origin
                    opening := c.opening, closing := k, outcome := .aborted
                    reason := .abortRequest, xStart := c.xStart, xFar := c.xFar
                    counters := c.counters, misses := 0, committed := 0 } }).withTable
              (s.table.map (fun r =>
                if r.state = .taken ∨ r.state = .missed then
                  { r with state := .armed, pending := none }
                else r))).raise .passAborted).answered h 0x43 .ok
              (sentU 4 c.number.toNat)))

/-- REREF and REREF_CANCEL (08 R139, R140, R144, R148): the tests in their order; the wait takes the rounded
means of the record's halves as its targets and the sample after the newest as its valid-from sample; a
cancel ends it FAILED_CANCELLED. Before sample 0 the index of the newest sample is open (log entry 7). -/
def Obligations.RerefRequestsServed : Prop :=
  ∀ (s : State) (h : Header), s.Ready h → s.TableOrdered →
    ∃ k, (∀ n, s.newest = some n → k = n)
      ∧ (∀ (line : Int) (sec : Nat) (ranges signal : Prop),
        (ranges ↔ (-1000000 ≤ line ∧ line ≤ 1000000) ∧ 1 ≤ sec ∧ sec ≤ 600) →
        (signal ↔ ∀ ch, ch = .xl ∨ ch = .xr →
          (s.chan ch).counter.state ≠ .off ∧ (s.chan ch).counter.state ≠ .dark) →
        (¬ranges → exec (.reref h line sec) s = .next (s.answered h 0x48 .range []))
        ∧ (ranges → s.reref.wait ≠ none →
          exec (.reref h line sec) s = .next (s.answered h 0x48 .state []))
        ∧ (ranges → s.reref.wait = none → s.pass.context ≠ none →
          exec (.reref h line sec) s = .next (s.answered h 0x48 .inPass []))
        ∧ (ranges → s.reref.wait = none → s.pass.context = none → ¬signal →
          exec (.reref h line sec) s = .next (s.answered h 0x48 .state []))
        ∧ (ranges → s.reref.wait = none → s.pass.context = none → signal →
          (∀ r ∈ s.table, r.line ≠ line) →
          exec (.reref h line sec) s = .next (s.answered h 0x48 .notFound []))
        ∧ (ranges → s.reref.wait = none → s.pass.context = none → signal →
          ∀ r ∈ s.table, r.line = line →
          ((r.datum = false ∨ (r.fwd = none ∧ r.rev = none)) →
            exec (.reref h line sec) s = .next (s.answered h 0x48 .state []))
          ∧ (r.datum = true → (r.fwd ≠ none ∨ r.rev ≠ none) →
            exec (.reref h line sec) s = .next
              ((s.withReref
                { s.reref with
                  wait := some
                    { line := line
                      targetFwd := r.fwd.map (fun q => roundDiv q.sumX q.n)
                      targetRev := r.rev.map (fun q => roundDiv q.sumX q.n)
                      timeoutS := sec, accepting := k, validFrom := nextIndex k
                      discarded := 0 } }).answered h 0x48 .accepted []))))
      ∧ (s.reref.wait = none → exec (.rerefCancel h) s = .next (s.answered h 0x49 .state []))
      ∧ (∀ w, s.reref.wait = some w →
        exec (.rerefCancel h) s = .next
          (((s.withReref
            { wait := none
              result := some
                { outcome := .failedCancelled, line := w.line, accepting := w.accepting
                  endSample := k, discarded := w.discarded, capture := none
                  applied := none } }).raise .rerefEnd).answered h 0x49 .ok []))

/-! ### Invariants -/

/-- 01 R6, 02 R17, 03 R47, R48: every step keeps the counters and the ellipse parameter sets in their
ranges, with what the fit unit collects and is handed. -/
def Obligations.ChannelsStayInRange : Prop :=
  ∀ s t : State, s.CountersInRange ∧ s.EllipsesInRange → step s = .next t →
    t.CountersInRange ∧ t.EllipsesInRange

/-- 03 R39, R42, 04 R66, 05 R79: every step keeps one request for each channel and three waiting at most, an
age at its top exactly while the stale condition stands, and a window of at most 64 consecutive samples that
ends at the newest. -/
def Obligations.UnitsStaySound : Prop :=
  ∀ s t : State, s.FitUnitSound ∧ s.AgeSound ∧ s.WindowSound → step s = .next t →
    t.FitUnitSound ∧ t.AgeSound ∧ t.WindowSound

/-- 06 R92 to R94: every step keeps the records in one order of line number, nominal and window, disjoint,
2048 at most; the halves as R93 says; a pending capture exactly in TAKEN, and TAKEN and MISSED only while a
pass is open. -/
def Obligations.TableStaysSound : Prop :=
  ∀ s t : State, s.TableOrdered ∧ s.HalvesSound ∧ s.PendingSound → step s = .next t →
    t.TableOrdered ∧ t.HalvesSound ∧ t.PendingSound

/-- 07 R120, R136, 08 R143: every step keeps a pass open only while XL and XR are referenced and no wait
stands, a wait only while neither is OFF or DARK, and the records TAKEN within the pass's taken and late
counts. -/
def Obligations.PassStaysBounded : Prop :=
  ∀ s t : State,
    s.PassReferenced ∧ s.WaitHasSignal ∧ s.TakenBounded ∧ s.PendingSound ∧ s.TableOrdered →
    step s = .next t → t.PassReferenced ∧ t.WaitHasSignal ∧ t.TakenBounded

/-- The invariants hold right after power-on reset (01 R14, 02 R37, 03 R56, 04 R73, 05 R80, 06 R114, 07 R137,
08 R150). -/
def Obligations.ResetMeetsInvariants : Prop :=
  State.reset.CountersInRange ∧ State.reset.EllipsesInRange ∧ State.reset.FitUnitSound
    ∧ State.reset.AgeSound ∧ State.reset.WindowSound ∧ State.reset.TableOrdered
    ∧ State.reset.HalvesSound ∧ State.reset.PendingSound ∧ State.reset.PassReferenced
    ∧ State.reset.WaitHasSignal ∧ State.reset.TakenBounded
end

