-- ==== Sys2Proof/Laws/State.lean ====
section
/-! SUPPORT. One lemma per field per update of State, true by rfl. -/

namespace Sys2Proof.Machine

section
variable (s : State) (v : Option Nat)
@[simp] theorem State.withNewest_newest : (s.withNewest v).newest = v := rfl
@[simp] theorem State.withNewest_channels : (s.withNewest v).channels = s.channels := rfl
@[simp] theorem State.withNewest_fit : (s.withNewest v).fit = s.fit := rfl
@[simp] theorem State.withNewest_air : (s.withNewest v).air = s.air := rfl
@[simp] theorem State.withNewest_axis : (s.withNewest v).axis = s.axis := rfl
@[simp] theorem State.withNewest_line : (s.withNewest v).line = s.line := rfl
@[simp] theorem State.withNewest_table : (s.withNewest v).table = s.table := rfl
@[simp] theorem State.withNewest_pass : (s.withNewest v).pass = s.pass := rfl
@[simp] theorem State.withNewest_reref : (s.withNewest v).reref = s.reref := rfl
@[simp] theorem State.withNewest_link : (s.withNewest v).link = s.link := rfl
@[simp] theorem State.withNewest_drive : (s.withNewest v).drive = s.drive := rfl
@[simp] theorem State.withNewest_status : (s.withNewest v).status = s.status := rfl
@[simp] theorem State.withNewest_arrival : (s.withNewest v).arrival = s.arrival := rfl
@[simp] theorem State.withNewest_freeCount : (s.withNewest v).freeCount = s.freeCount := rfl
@[simp] theorem State.withNewest_straps : (s.withNewest v).straps = s.straps := rfl
@[simp] theorem State.withNewest_restartLine : (s.withNewest v).restartLine = s.restartLine := rfl
@[simp] theorem State.withNewest_pending : (s.withNewest v).pending = s.pending := rfl
end

section
variable (s : State) (v : PerChannel ChannelUnit)
@[simp] theorem State.withChannels_newest : (s.withChannels v).newest = s.newest := rfl
@[simp] theorem State.withChannels_channels : (s.withChannels v).channels = v := rfl
@[simp] theorem State.withChannels_fit : (s.withChannels v).fit = s.fit := rfl
@[simp] theorem State.withChannels_air : (s.withChannels v).air = s.air := rfl
@[simp] theorem State.withChannels_axis : (s.withChannels v).axis = s.axis := rfl
@[simp] theorem State.withChannels_line : (s.withChannels v).line = s.line := rfl
@[simp] theorem State.withChannels_table : (s.withChannels v).table = s.table := rfl
@[simp] theorem State.withChannels_pass : (s.withChannels v).pass = s.pass := rfl
@[simp] theorem State.withChannels_reref : (s.withChannels v).reref = s.reref := rfl
@[simp] theorem State.withChannels_link : (s.withChannels v).link = s.link := rfl
@[simp] theorem State.withChannels_drive : (s.withChannels v).drive = s.drive := rfl
@[simp] theorem State.withChannels_status : (s.withChannels v).status = s.status := rfl
@[simp] theorem State.withChannels_arrival : (s.withChannels v).arrival = s.arrival := rfl
@[simp] theorem State.withChannels_freeCount : (s.withChannels v).freeCount = s.freeCount := rfl
@[simp] theorem State.withChannels_straps : (s.withChannels v).straps = s.straps := rfl
@[simp] theorem State.withChannels_restartLine : (s.withChannels v).restartLine = s.restartLine := rfl
@[simp] theorem State.withChannels_pending : (s.withChannels v).pending = s.pending := rfl
end

section
variable (s : State) (v : FitUnit)
@[simp] theorem State.withFit_newest : (s.withFit v).newest = s.newest := rfl
@[simp] theorem State.withFit_channels : (s.withFit v).channels = s.channels := rfl
@[simp] theorem State.withFit_fit : (s.withFit v).fit = v := rfl
@[simp] theorem State.withFit_air : (s.withFit v).air = s.air := rfl
@[simp] theorem State.withFit_axis : (s.withFit v).axis = s.axis := rfl
@[simp] theorem State.withFit_line : (s.withFit v).line = s.line := rfl
@[simp] theorem State.withFit_table : (s.withFit v).table = s.table := rfl
@[simp] theorem State.withFit_pass : (s.withFit v).pass = s.pass := rfl
@[simp] theorem State.withFit_reref : (s.withFit v).reref = s.reref := rfl
@[simp] theorem State.withFit_link : (s.withFit v).link = s.link := rfl
@[simp] theorem State.withFit_drive : (s.withFit v).drive = s.drive := rfl
@[simp] theorem State.withFit_status : (s.withFit v).status = s.status := rfl
@[simp] theorem State.withFit_arrival : (s.withFit v).arrival = s.arrival := rfl
@[simp] theorem State.withFit_freeCount : (s.withFit v).freeCount = s.freeCount := rfl
@[simp] theorem State.withFit_straps : (s.withFit v).straps = s.straps := rfl
@[simp] theorem State.withFit_restartLine : (s.withFit v).restartLine = s.restartLine := rfl
@[simp] theorem State.withFit_pending : (s.withFit v).pending = s.pending := rfl
end

section
variable (s : State) (v : AirUnit)
@[simp] theorem State.withAir_newest : (s.withAir v).newest = s.newest := rfl
@[simp] theorem State.withAir_channels : (s.withAir v).channels = s.channels := rfl
@[simp] theorem State.withAir_fit : (s.withAir v).fit = s.fit := rfl
@[simp] theorem State.withAir_air : (s.withAir v).air = v := rfl
@[simp] theorem State.withAir_axis : (s.withAir v).axis = s.axis := rfl
@[simp] theorem State.withAir_line : (s.withAir v).line = s.line := rfl
@[simp] theorem State.withAir_table : (s.withAir v).table = s.table := rfl
@[simp] theorem State.withAir_pass : (s.withAir v).pass = s.pass := rfl
@[simp] theorem State.withAir_reref : (s.withAir v).reref = s.reref := rfl
@[simp] theorem State.withAir_link : (s.withAir v).link = s.link := rfl
@[simp] theorem State.withAir_drive : (s.withAir v).drive = s.drive := rfl
@[simp] theorem State.withAir_status : (s.withAir v).status = s.status := rfl
@[simp] theorem State.withAir_arrival : (s.withAir v).arrival = s.arrival := rfl
@[simp] theorem State.withAir_freeCount : (s.withAir v).freeCount = s.freeCount := rfl
@[simp] theorem State.withAir_straps : (s.withAir v).straps = s.straps := rfl
@[simp] theorem State.withAir_restartLine : (s.withAir v).restartLine = s.restartLine := rfl
@[simp] theorem State.withAir_pending : (s.withAir v).pending = s.pending := rfl
end

section
variable (s : State) (v : AxisUnit)
@[simp] theorem State.withAxis_newest : (s.withAxis v).newest = s.newest := rfl
@[simp] theorem State.withAxis_channels : (s.withAxis v).channels = s.channels := rfl
@[simp] theorem State.withAxis_fit : (s.withAxis v).fit = s.fit := rfl
@[simp] theorem State.withAxis_air : (s.withAxis v).air = s.air := rfl
@[simp] theorem State.withAxis_axis : (s.withAxis v).axis = v := rfl
@[simp] theorem State.withAxis_line : (s.withAxis v).line = s.line := rfl
@[simp] theorem State.withAxis_table : (s.withAxis v).table = s.table := rfl
@[simp] theorem State.withAxis_pass : (s.withAxis v).pass = s.pass := rfl
@[simp] theorem State.withAxis_reref : (s.withAxis v).reref = s.reref := rfl
@[simp] theorem State.withAxis_link : (s.withAxis v).link = s.link := rfl
@[simp] theorem State.withAxis_drive : (s.withAxis v).drive = s.drive := rfl
@[simp] theorem State.withAxis_status : (s.withAxis v).status = s.status := rfl
@[simp] theorem State.withAxis_arrival : (s.withAxis v).arrival = s.arrival := rfl
@[simp] theorem State.withAxis_freeCount : (s.withAxis v).freeCount = s.freeCount := rfl
@[simp] theorem State.withAxis_straps : (s.withAxis v).straps = s.straps := rfl
@[simp] theorem State.withAxis_restartLine : (s.withAxis v).restartLine = s.restartLine := rfl
@[simp] theorem State.withAxis_pending : (s.withAxis v).pending = s.pending := rfl
end

section
variable (s : State) (v : LineInput)
@[simp] theorem State.withLine_newest : (s.withLine v).newest = s.newest := rfl
@[simp] theorem State.withLine_channels : (s.withLine v).channels = s.channels := rfl
@[simp] theorem State.withLine_fit : (s.withLine v).fit = s.fit := rfl
@[simp] theorem State.withLine_air : (s.withLine v).air = s.air := rfl
@[simp] theorem State.withLine_axis : (s.withLine v).axis = s.axis := rfl
@[simp] theorem State.withLine_line : (s.withLine v).line = v := rfl
@[simp] theorem State.withLine_table : (s.withLine v).table = s.table := rfl
@[simp] theorem State.withLine_pass : (s.withLine v).pass = s.pass := rfl
@[simp] theorem State.withLine_reref : (s.withLine v).reref = s.reref := rfl
@[simp] theorem State.withLine_link : (s.withLine v).link = s.link := rfl
@[simp] theorem State.withLine_drive : (s.withLine v).drive = s.drive := rfl
@[simp] theorem State.withLine_status : (s.withLine v).status = s.status := rfl
@[simp] theorem State.withLine_arrival : (s.withLine v).arrival = s.arrival := rfl
@[simp] theorem State.withLine_freeCount : (s.withLine v).freeCount = s.freeCount := rfl
@[simp] theorem State.withLine_straps : (s.withLine v).straps = s.straps := rfl
@[simp] theorem State.withLine_restartLine : (s.withLine v).restartLine = s.restartLine := rfl
@[simp] theorem State.withLine_pending : (s.withLine v).pending = s.pending := rfl
end

section
variable (s : State) (v : List LineRecord)
@[simp] theorem State.withTable_newest : (s.withTable v).newest = s.newest := rfl
@[simp] theorem State.withTable_channels : (s.withTable v).channels = s.channels := rfl
@[simp] theorem State.withTable_fit : (s.withTable v).fit = s.fit := rfl
@[simp] theorem State.withTable_air : (s.withTable v).air = s.air := rfl
@[simp] theorem State.withTable_axis : (s.withTable v).axis = s.axis := rfl
@[simp] theorem State.withTable_line : (s.withTable v).line = s.line := rfl
@[simp] theorem State.withTable_table : (s.withTable v).table = v := rfl
@[simp] theorem State.withTable_pass : (s.withTable v).pass = s.pass := rfl
@[simp] theorem State.withTable_reref : (s.withTable v).reref = s.reref := rfl
@[simp] theorem State.withTable_link : (s.withTable v).link = s.link := rfl
@[simp] theorem State.withTable_drive : (s.withTable v).drive = s.drive := rfl
@[simp] theorem State.withTable_status : (s.withTable v).status = s.status := rfl
@[simp] theorem State.withTable_arrival : (s.withTable v).arrival = s.arrival := rfl
@[simp] theorem State.withTable_freeCount : (s.withTable v).freeCount = s.freeCount := rfl
@[simp] theorem State.withTable_straps : (s.withTable v).straps = s.straps := rfl
@[simp] theorem State.withTable_restartLine : (s.withTable v).restartLine = s.restartLine := rfl
@[simp] theorem State.withTable_pending : (s.withTable v).pending = s.pending := rfl
end

section
variable (s : State) (v : PassUnit)
@[simp] theorem State.withPass_newest : (s.withPass v).newest = s.newest := rfl
@[simp] theorem State.withPass_channels : (s.withPass v).channels = s.channels := rfl
@[simp] theorem State.withPass_fit : (s.withPass v).fit = s.fit := rfl
@[simp] theorem State.withPass_air : (s.withPass v).air = s.air := rfl
@[simp] theorem State.withPass_axis : (s.withPass v).axis = s.axis := rfl
@[simp] theorem State.withPass_line : (s.withPass v).line = s.line := rfl
@[simp] theorem State.withPass_table : (s.withPass v).table = s.table := rfl
@[simp] theorem State.withPass_pass : (s.withPass v).pass = v := rfl
@[simp] theorem State.withPass_reref : (s.withPass v).reref = s.reref := rfl
@[simp] theorem State.withPass_link : (s.withPass v).link = s.link := rfl
@[simp] theorem State.withPass_drive : (s.withPass v).drive = s.drive := rfl
@[simp] theorem State.withPass_status : (s.withPass v).status = s.status := rfl
@[simp] theorem State.withPass_arrival : (s.withPass v).arrival = s.arrival := rfl
@[simp] theorem State.withPass_freeCount : (s.withPass v).freeCount = s.freeCount := rfl
@[simp] theorem State.withPass_straps : (s.withPass v).straps = s.straps := rfl
@[simp] theorem State.withPass_restartLine : (s.withPass v).restartLine = s.restartLine := rfl
@[simp] theorem State.withPass_pending : (s.withPass v).pending = s.pending := rfl
end

section
variable (s : State) (v : RerefUnit)
@[simp] theorem State.withReref_newest : (s.withReref v).newest = s.newest := rfl
@[simp] theorem State.withReref_channels : (s.withReref v).channels = s.channels := rfl
@[simp] theorem State.withReref_fit : (s.withReref v).fit = s.fit := rfl
@[simp] theorem State.withReref_air : (s.withReref v).air = s.air := rfl
@[simp] theorem State.withReref_axis : (s.withReref v).axis = s.axis := rfl
@[simp] theorem State.withReref_line : (s.withReref v).line = s.line := rfl
@[simp] theorem State.withReref_table : (s.withReref v).table = s.table := rfl
@[simp] theorem State.withReref_pass : (s.withReref v).pass = s.pass := rfl
@[simp] theorem State.withReref_reref : (s.withReref v).reref = v := rfl
@[simp] theorem State.withReref_link : (s.withReref v).link = s.link := rfl
@[simp] theorem State.withReref_drive : (s.withReref v).drive = s.drive := rfl
@[simp] theorem State.withReref_status : (s.withReref v).status = s.status := rfl
@[simp] theorem State.withReref_arrival : (s.withReref v).arrival = s.arrival := rfl
@[simp] theorem State.withReref_freeCount : (s.withReref v).freeCount = s.freeCount := rfl
@[simp] theorem State.withReref_straps : (s.withReref v).straps = s.straps := rfl
@[simp] theorem State.withReref_restartLine : (s.withReref v).restartLine = s.restartLine := rfl
@[simp] theorem State.withReref_pending : (s.withReref v).pending = s.pending := rfl
end

section
variable (s : State) (v : LinkUnit)
@[simp] theorem State.withLink_newest : (s.withLink v).newest = s.newest := rfl
@[simp] theorem State.withLink_channels : (s.withLink v).channels = s.channels := rfl
@[simp] theorem State.withLink_fit : (s.withLink v).fit = s.fit := rfl
@[simp] theorem State.withLink_air : (s.withLink v).air = s.air := rfl
@[simp] theorem State.withLink_axis : (s.withLink v).axis = s.axis := rfl
@[simp] theorem State.withLink_line : (s.withLink v).line = s.line := rfl
@[simp] theorem State.withLink_table : (s.withLink v).table = s.table := rfl
@[simp] theorem State.withLink_pass : (s.withLink v).pass = s.pass := rfl
@[simp] theorem State.withLink_reref : (s.withLink v).reref = s.reref := rfl
@[simp] theorem State.withLink_link : (s.withLink v).link = v := rfl
@[simp] theorem State.withLink_drive : (s.withLink v).drive = s.drive := rfl
@[simp] theorem State.withLink_status : (s.withLink v).status = s.status := rfl
@[simp] theorem State.withLink_arrival : (s.withLink v).arrival = s.arrival := rfl
@[simp] theorem State.withLink_freeCount : (s.withLink v).freeCount = s.freeCount := rfl
@[simp] theorem State.withLink_straps : (s.withLink v).straps = s.straps := rfl
@[simp] theorem State.withLink_restartLine : (s.withLink v).restartLine = s.restartLine := rfl
@[simp] theorem State.withLink_pending : (s.withLink v).pending = s.pending := rfl
end

section
variable (s : State) (v : DriveUnit)
@[simp] theorem State.withDrive_newest : (s.withDrive v).newest = s.newest := rfl
@[simp] theorem State.withDrive_channels : (s.withDrive v).channels = s.channels := rfl
@[simp] theorem State.withDrive_fit : (s.withDrive v).fit = s.fit := rfl
@[simp] theorem State.withDrive_air : (s.withDrive v).air = s.air := rfl
@[simp] theorem State.withDrive_axis : (s.withDrive v).axis = s.axis := rfl
@[simp] theorem State.withDrive_line : (s.withDrive v).line = s.line := rfl
@[simp] theorem State.withDrive_table : (s.withDrive v).table = s.table := rfl
@[simp] theorem State.withDrive_pass : (s.withDrive v).pass = s.pass := rfl
@[simp] theorem State.withDrive_reref : (s.withDrive v).reref = s.reref := rfl
@[simp] theorem State.withDrive_link : (s.withDrive v).link = s.link := rfl
@[simp] theorem State.withDrive_drive : (s.withDrive v).drive = v := rfl
@[simp] theorem State.withDrive_status : (s.withDrive v).status = s.status := rfl
@[simp] theorem State.withDrive_arrival : (s.withDrive v).arrival = s.arrival := rfl
@[simp] theorem State.withDrive_freeCount : (s.withDrive v).freeCount = s.freeCount := rfl
@[simp] theorem State.withDrive_straps : (s.withDrive v).straps = s.straps := rfl
@[simp] theorem State.withDrive_restartLine : (s.withDrive v).restartLine = s.restartLine := rfl
@[simp] theorem State.withDrive_pending : (s.withDrive v).pending = s.pending := rfl
end

section
variable (s : State) (v : StatusUnit)
@[simp] theorem State.withStatus_newest : (s.withStatus v).newest = s.newest := rfl
@[simp] theorem State.withStatus_channels : (s.withStatus v).channels = s.channels := rfl
@[simp] theorem State.withStatus_fit : (s.withStatus v).fit = s.fit := rfl
@[simp] theorem State.withStatus_air : (s.withStatus v).air = s.air := rfl
@[simp] theorem State.withStatus_axis : (s.withStatus v).axis = s.axis := rfl
@[simp] theorem State.withStatus_line : (s.withStatus v).line = s.line := rfl
@[simp] theorem State.withStatus_table : (s.withStatus v).table = s.table := rfl
@[simp] theorem State.withStatus_pass : (s.withStatus v).pass = s.pass := rfl
@[simp] theorem State.withStatus_reref : (s.withStatus v).reref = s.reref := rfl
@[simp] theorem State.withStatus_link : (s.withStatus v).link = s.link := rfl
@[simp] theorem State.withStatus_drive : (s.withStatus v).drive = s.drive := rfl
@[simp] theorem State.withStatus_status : (s.withStatus v).status = v := rfl
@[simp] theorem State.withStatus_arrival : (s.withStatus v).arrival = s.arrival := rfl
@[simp] theorem State.withStatus_freeCount : (s.withStatus v).freeCount = s.freeCount := rfl
@[simp] theorem State.withStatus_straps : (s.withStatus v).straps = s.straps := rfl
@[simp] theorem State.withStatus_restartLine : (s.withStatus v).restartLine = s.restartLine := rfl
@[simp] theorem State.withStatus_pending : (s.withStatus v).pending = s.pending := rfl
end

section
variable (s : State) (v : Arrival)
@[simp] theorem State.withArrival_newest : (s.withArrival v).newest = s.newest := rfl
@[simp] theorem State.withArrival_channels : (s.withArrival v).channels = s.channels := rfl
@[simp] theorem State.withArrival_fit : (s.withArrival v).fit = s.fit := rfl
@[simp] theorem State.withArrival_air : (s.withArrival v).air = s.air := rfl
@[simp] theorem State.withArrival_axis : (s.withArrival v).axis = s.axis := rfl
@[simp] theorem State.withArrival_line : (s.withArrival v).line = s.line := rfl
@[simp] theorem State.withArrival_table : (s.withArrival v).table = s.table := rfl
@[simp] theorem State.withArrival_pass : (s.withArrival v).pass = s.pass := rfl
@[simp] theorem State.withArrival_reref : (s.withArrival v).reref = s.reref := rfl
@[simp] theorem State.withArrival_link : (s.withArrival v).link = s.link := rfl
@[simp] theorem State.withArrival_drive : (s.withArrival v).drive = s.drive := rfl
@[simp] theorem State.withArrival_status : (s.withArrival v).status = s.status := rfl
@[simp] theorem State.withArrival_arrival : (s.withArrival v).arrival = v := rfl
@[simp] theorem State.withArrival_freeCount : (s.withArrival v).freeCount = s.freeCount := rfl
@[simp] theorem State.withArrival_straps : (s.withArrival v).straps = s.straps := rfl
@[simp] theorem State.withArrival_restartLine : (s.withArrival v).restartLine = s.restartLine := rfl
@[simp] theorem State.withArrival_pending : (s.withArrival v).pending = s.pending := rfl
end

section
variable (s : State) (v : Nat)
@[simp] theorem State.withFreeCount_newest : (s.withFreeCount v).newest = s.newest := rfl
@[simp] theorem State.withFreeCount_channels : (s.withFreeCount v).channels = s.channels := rfl
@[simp] theorem State.withFreeCount_fit : (s.withFreeCount v).fit = s.fit := rfl
@[simp] theorem State.withFreeCount_air : (s.withFreeCount v).air = s.air := rfl
@[simp] theorem State.withFreeCount_axis : (s.withFreeCount v).axis = s.axis := rfl
@[simp] theorem State.withFreeCount_line : (s.withFreeCount v).line = s.line := rfl
@[simp] theorem State.withFreeCount_table : (s.withFreeCount v).table = s.table := rfl
@[simp] theorem State.withFreeCount_pass : (s.withFreeCount v).pass = s.pass := rfl
@[simp] theorem State.withFreeCount_reref : (s.withFreeCount v).reref = s.reref := rfl
@[simp] theorem State.withFreeCount_link : (s.withFreeCount v).link = s.link := rfl
@[simp] theorem State.withFreeCount_drive : (s.withFreeCount v).drive = s.drive := rfl
@[simp] theorem State.withFreeCount_status : (s.withFreeCount v).status = s.status := rfl
@[simp] theorem State.withFreeCount_arrival : (s.withFreeCount v).arrival = s.arrival := rfl
@[simp] theorem State.withFreeCount_freeCount : (s.withFreeCount v).freeCount = v := rfl
@[simp] theorem State.withFreeCount_straps : (s.withFreeCount v).straps = s.straps := rfl
@[simp] theorem State.withFreeCount_restartLine : (s.withFreeCount v).restartLine = s.restartLine := rfl
@[simp] theorem State.withFreeCount_pending : (s.withFreeCount v).pending = s.pending := rfl
end

section
variable (s : State) (v : Nat)
@[simp] theorem State.withStraps_newest : (s.withStraps v).newest = s.newest := rfl
@[simp] theorem State.withStraps_channels : (s.withStraps v).channels = s.channels := rfl
@[simp] theorem State.withStraps_fit : (s.withStraps v).fit = s.fit := rfl
@[simp] theorem State.withStraps_air : (s.withStraps v).air = s.air := rfl
@[simp] theorem State.withStraps_axis : (s.withStraps v).axis = s.axis := rfl
@[simp] theorem State.withStraps_line : (s.withStraps v).line = s.line := rfl
@[simp] theorem State.withStraps_table : (s.withStraps v).table = s.table := rfl
@[simp] theorem State.withStraps_pass : (s.withStraps v).pass = s.pass := rfl
@[simp] theorem State.withStraps_reref : (s.withStraps v).reref = s.reref := rfl
@[simp] theorem State.withStraps_link : (s.withStraps v).link = s.link := rfl
@[simp] theorem State.withStraps_drive : (s.withStraps v).drive = s.drive := rfl
@[simp] theorem State.withStraps_status : (s.withStraps v).status = s.status := rfl
@[simp] theorem State.withStraps_arrival : (s.withStraps v).arrival = s.arrival := rfl
@[simp] theorem State.withStraps_freeCount : (s.withStraps v).freeCount = s.freeCount := rfl
@[simp] theorem State.withStraps_straps : (s.withStraps v).straps = v := rfl
@[simp] theorem State.withStraps_restartLine : (s.withStraps v).restartLine = s.restartLine := rfl
@[simp] theorem State.withStraps_pending : (s.withStraps v).pending = s.pending := rfl
end

section
variable (s : State) (v : Bool)
@[simp] theorem State.withRestartLine_newest : (s.withRestartLine v).newest = s.newest := rfl
@[simp] theorem State.withRestartLine_channels : (s.withRestartLine v).channels = s.channels := rfl
@[simp] theorem State.withRestartLine_fit : (s.withRestartLine v).fit = s.fit := rfl
@[simp] theorem State.withRestartLine_air : (s.withRestartLine v).air = s.air := rfl
@[simp] theorem State.withRestartLine_axis : (s.withRestartLine v).axis = s.axis := rfl
@[simp] theorem State.withRestartLine_line : (s.withRestartLine v).line = s.line := rfl
@[simp] theorem State.withRestartLine_table : (s.withRestartLine v).table = s.table := rfl
@[simp] theorem State.withRestartLine_pass : (s.withRestartLine v).pass = s.pass := rfl
@[simp] theorem State.withRestartLine_reref : (s.withRestartLine v).reref = s.reref := rfl
@[simp] theorem State.withRestartLine_link : (s.withRestartLine v).link = s.link := rfl
@[simp] theorem State.withRestartLine_drive : (s.withRestartLine v).drive = s.drive := rfl
@[simp] theorem State.withRestartLine_status : (s.withRestartLine v).status = s.status := rfl
@[simp] theorem State.withRestartLine_arrival : (s.withRestartLine v).arrival = s.arrival := rfl
@[simp] theorem State.withRestartLine_freeCount : (s.withRestartLine v).freeCount = s.freeCount := rfl
@[simp] theorem State.withRestartLine_straps : (s.withRestartLine v).straps = s.straps := rfl
@[simp] theorem State.withRestartLine_restartLine : (s.withRestartLine v).restartLine = v := rfl
@[simp] theorem State.withRestartLine_pending : (s.withRestartLine v).pending = s.pending := rfl
end

section
variable (s : State) (v : List Instr)
@[simp] theorem State.withPending_newest : (s.withPending v).newest = s.newest := rfl
@[simp] theorem State.withPending_channels : (s.withPending v).channels = s.channels := rfl
@[simp] theorem State.withPending_fit : (s.withPending v).fit = s.fit := rfl
@[simp] theorem State.withPending_air : (s.withPending v).air = s.air := rfl
@[simp] theorem State.withPending_axis : (s.withPending v).axis = s.axis := rfl
@[simp] theorem State.withPending_line : (s.withPending v).line = s.line := rfl
@[simp] theorem State.withPending_table : (s.withPending v).table = s.table := rfl
@[simp] theorem State.withPending_pass : (s.withPending v).pass = s.pass := rfl
@[simp] theorem State.withPending_reref : (s.withPending v).reref = s.reref := rfl
@[simp] theorem State.withPending_link : (s.withPending v).link = s.link := rfl
@[simp] theorem State.withPending_drive : (s.withPending v).drive = s.drive := rfl
@[simp] theorem State.withPending_status : (s.withPending v).status = s.status := rfl
@[simp] theorem State.withPending_arrival : (s.withPending v).arrival = s.arrival := rfl
@[simp] theorem State.withPending_freeCount : (s.withPending v).freeCount = s.freeCount := rfl
@[simp] theorem State.withPending_straps : (s.withPending v).straps = s.straps := rfl
@[simp] theorem State.withPending_restartLine : (s.withPending v).restartLine = s.restartLine := rfl
@[simp] theorem State.withPending_pending : (s.withPending v).pending = v := rfl
end

end Sys2Proof.Machine
end

