-- ==== Sys2Proof/Laws/Settle.lean ====
section
/-! SUPPORT. A part that owes nothing is left alone by settling, so a command from outside acts on it as it
stands; and what a request command does at a part that is ready for it. -/

namespace Sys2Proof.Machine

variable {s : State}

theorem PerChannel.get_all {α : Type} (v : α) (ch : Channel) : (PerChannel.all v).get ch = v := by
  cases ch <;> rfl

theorem FitUnit.fillSlot_of_full {f : FitUnit} (h : f.working.isSome = true ∨ f.queue = []) :
    f.fillSlot = f := by
  unfold FitUnit.fillSlot
  split
  · rename_i h1 h2
    simp [h1, h2] at h
  · rfl
  · rfl

theorem State.takeSlotFill_of_full (h : s.fit.working.isSome = true ∨ s.fit.queue = []) :
    s.takeSlotFill = s := by
  simp only [State.takeSlotFill, FitUnit.fillSlot_of_full h]
  rfl

theorem State.takeResetInstalls_of_idle (h : s.arrival.resetInstall = .all false) :
    s.takeResetInstalls = s := by
  simp [State.takeResetInstalls, State.takeResetInstall, h, PerChannel.get_all]

theorem State.takeBuffered_of_idle (h : s.bufferedDue = false) : s.takeBuffered = s := by
  unfold State.takeBuffered
  split
  · rename_i h1 h2
    simp [State.bufferedDue, h1, h2] at h
  · rfl

/-- Everything due is taken from a part that owes nothing: nothing happens. -/
theorem State.settleArrival_of_quiet (q : s.QuietArrival) : s.settleArrival = s := by
  obtain ⟨h1, h2, h3, h4, h5, h6, h7, h10, h11, h12⟩ := q
  simp only [State.settleArrival, State.takeAgeTick, State.takeFitBegin, State.takeFitComplete,
    State.takeFitTimer, State.takeCheck, State.takeReport, State.takeCapture, State.takeRerefExpiry,
    h1, h2, h3, h5, h6, h7, h11, h12, Bool.false_eq_true, if_false, Bool.false_and,
    State.takeResetInstalls_of_idle h4, State.takeSlotFill_of_full h10]

theorem State.settleLink_of_quiet (q : s.Quiet) : s.settleLink = s := by
  obtain ⟨⟨-, -, -, -, -, -, -, h10, -, -⟩, h8, h9, h13⟩ := q
  simp only [State.settleLink, State.takeBaud, State.takeRestart, h8, h9, Bool.false_eq_true, if_false,
    State.takeBuffered_of_idle h13, State.takeSlotFill_of_full h10]

theorem State.settle_of_quiet (q : s.Quiet) : s.settle = s := by
  rw [State.settle, s.settleArrival_of_quiet q.1, s.settleLink_of_quiet q]

/-- 09 R156 to R159: a request with an own address, at a part that owes nothing and has no request in
service, is served and answered. -/
theorem State.request_of_ready {h : Header} (q : s.Ready h) (r : Request) :
    s.request h r = (s.serve r).finish true r.code h.tag := by
  obtain ⟨hq, hs, hi⟩ := q
  simp only [State.request, s.settle_of_quiet hq, State.takeRequest, LinkUnit.addressed, hs, hi, if_true,
    State.serveRequest]

/-- 09 R156: a frame to an address that is neither the station's, nor the group's, nor 0xFF is ignored. -/
theorem State.takeRequest_of_other {h : Header} (hs : s.link.addressed h.address = none) (r : Request) :
    s.takeRequest h r = s := by
  simp only [State.takeRequest, hs]

theorem LinkUnit.addressed_own {l : LinkUnit} {a : Byte} (h : l.station = some a) :
    l.addressed a = some true := by
  simp [LinkUnit.addressed, h]

/-- 09 R160: a served request that is refused is answered with its status and no data. -/
theorem Served.reply_of_refused {v : Served} (h : v.status.taken = false) (code tag : Byte) :
    (v.reply code tag).data = [] := by
  simp [Served.reply, h]

end Sys2Proof.Machine
end

