-- ==== Sys2Proof/Laws/Shape.lean ====
section
/-! SUPPORT. For each shared operation, the fields it can touch: the state after it is the state before with
new values in those fields and in no other. -/

namespace Sys2Proof.Machine

variable (s : State)

theorem State.raise_shape (e : Event) : ∃ u, s.raise e = { s with status := u } := ⟨_, rfl⟩

theorem State.raiseIf_shape (b : Bool) (e : Event) : ∃ u, s.raiseIf b e = { s with status := u } := by
  cases b <;> exact ⟨_, rfl⟩

theorem State.setChan_shape (ch : Channel) (u : ChannelUnit) :
    ∃ c, s.setChan ch u = { s with channels := c } := ⟨_, rfl⟩

/-! ### Fit unit -/

theorem State.trimRequest_shape (ch : Channel) : ∃ f, s.trimRequest ch = { s with fit := f } := by
  unfold State.trimRequest
  split <;> exact ⟨_, rfl⟩

theorem State.trims_shape (l : List Channel) :
    ∃ f, l.foldl State.trimRequest s = { s with fit := f } := by
  induction l generalizing s with
  | nil => exact ⟨_, rfl⟩
  | cons ch l ih =>
    obtain ⟨f, hf⟩ := s.trimRequest_shape ch
    obtain ⟨g, hg⟩ := ih (s.trimRequest ch)
    exact ⟨g, by rw [List.foldl_cons, hg, hf]⟩

theorem State.trimRequests_shape (order : List Channel) (r : PerChannel ChannelArrival) :
    ∃ f, s.trimRequests order r = { s with fit := f } := s.trims_shape _

theorem State.fitOutcome_shape (ch : Channel) (r : FitResult) :
    ∃ f u, s.fitOutcome ch r = { s with fit := f, status := u } := ⟨_, _, rfl⟩

theorem State.endWorking_shape (r : FitRequest) (o : FitOutcome) :
    ∃ f u, s.endWorking r o = { s with fit := f, status := u } := ⟨_, _, rfl⟩

theorem State.endWaiting_shape (ch : Channel) (o : FitOutcome) :
    ∃ f u, s.endWaiting ch o = { s with fit := f, status := u } := by
  unfold State.endWaiting
  split <;> exact ⟨_, _, rfl⟩

theorem State.endWorkingOf_shape (ch : Channel) (o : FitOutcome) :
    ∃ f u, s.endWorkingOf ch o = { s with fit := f, status := u } := by
  unfold State.endWorkingOf
  split
  · exact ⟨_, _, rfl⟩
  · split <;> exact ⟨_, _, rfl⟩

theorem State.fitObserve_shape :
    ∃ f u a, s.fitObserve = { s with fit := f, status := u, arrival := a } := by
  unfold State.fitObserve
  dsimp only
  repeat' split
  all_goals exact ⟨_, _, _, rfl⟩

theorem State.fitStart_shape :
    ∃ f u a, s.fitStart = { s with fit := f, status := u, arrival := a } := by
  unfold State.fitStart
  split
  · exact ⟨_, _, _, rfl⟩
  · obtain ⟨f, u, a, h⟩ := State.fitObserve_shape (s.withFit
      { s.fit with acc := .empty, timer := some ⟨s.newestIndex, s.fit.timeoutMs⟩ })
    exact ⟨f, u, a, h⟩

theorem State.fitFinish_shape :
    ∃ c f u, s.fitFinish = { s with channels := c, fit := f, status := u } := by
  unfold State.fitFinish
  dsimp only
  repeat' split
  all_goals exact ⟨_, _, _, rfl⟩

theorem State.installNominal_shape (ch : Channel) :
    ∃ c f u, s.installNominal ch = { s with channels := c, fit := f, status := u } := ⟨_, _, _, rfl⟩

theorem State.installPending_shape (ch : Channel) :
    ∃ c f u, s.installPending ch = { s with channels := c, fit := f, status := u } := by
  unfold State.installPending
  dsimp only
  split <;> exact ⟨_, _, _, rfl⟩

theorem State.takeReset_shape (ch : Channel) :
    ∃ c f u, s.takeReset ch = { s with channels := c, fit := f, status := u } := by
  unfold State.takeReset
  obtain ⟨f, u, h⟩ := s.endWorkingOf_shape ch .abandonedReset
  obtain ⟨f', u', h'⟩ := (s.endWorkingOf ch .abandonedReset).endWaiting_shape ch .abandonedReset
  rw [h', h]
  dsimp only
  split <;> exact ⟨_, _, _, rfl⟩

theorem State.fitDisable_shape (ch : Channel) :
    ∃ c f u, s.fitDisable ch = { s with channels := c, fit := f, status := u } := by
  unfold State.fitDisable
  obtain ⟨f, u, h⟩ := s.endWorkingOf_shape ch .abandonedDisabled
  obtain ⟨f', u', h'⟩ :=
    (s.endWorkingOf ch .abandonedDisabled).endWaiting_shape ch .abandonedDisabled
  rw [h', h]
  dsimp only
  split <;> exact ⟨_, _, _, rfl⟩

theorem State.fitTimeout_shape : ∃ f u, s.fitTimeout = { s with fit := f, status := u } := by
  unfold State.fitTimeout
  split <;> exact ⟨_, _, rfl⟩

theorem State.restartPendingReset_shape (ch : Channel) :
    ∃ f, s.restartPendingReset ch = { s with fit := f } := by
  unfold State.restartPendingReset
  split <;> exact ⟨_, rfl⟩

theorem State.restartPendingResets_shape (l : List Channel) :
    ∃ f, l.foldl State.restartPendingReset s = { s with fit := f } := by
  induction l generalizing s with
  | nil => exact ⟨_, rfl⟩
  | cons ch l ih =>
    obtain ⟨f, hf⟩ := s.restartPendingReset_shape ch
    obtain ⟨g, hg⟩ := ih (s.restartPendingReset ch)
    exact ⟨g, by rw [List.foldl_cons, hg, hf]⟩

theorem State.fitRestart_shape : ∃ f, s.fitRestart = { s with fit := f } := by
  unfold State.fitRestart
  dsimp only
  split
  · obtain ⟨f, h⟩ := s.restartPendingResets_shape allChannels
    rw [h]
    exact ⟨_, rfl⟩
  · obtain ⟨f, h⟩ := State.restartPendingResets_shape (s.putFitResult _ (s.workingRecord _ .abandonedRestart))
      allChannels
    rw [h]
    exact ⟨_, rfl⟩

/-! ### Air, axis, line input -/

theorem State.dropSnapshot_shape : ∃ a, s.dropSnapshot = { s with air := a } := by
  unfold State.dropSnapshot
  repeat' split
  all_goals exact ⟨_, rfl⟩

theorem State.updateDrift_shape : ∃ a u, s.updateDrift = { s with air := a, status := u } := by
  unfold State.updateDrift State.raiseIf
  dsimp only
  split <;> exact ⟨_, _, rfl⟩

theorem State.countAge_shape : ∃ a v, s.countAge = { s with air := a, arrival := v } := by
  unfold State.countAge
  repeat' split
  all_goals exact ⟨_, _, rfl⟩

theorem State.ageStep_shape : ∃ a u, s.ageStep = { s with air := a, status := u } := by
  unfold State.ageStep
  dsimp only
  repeat' split
  all_goals exact ⟨_, _, rfl⟩

theorem State.pushWindow_shape (k : Nat) : ∃ a, s.pushWindow k = { s with axis := a } := ⟨_, rfl⟩

theorem State.atSample_shape : ∃ c, s.atSample = { s with channels := c } := ⟨_, rfl⟩

@[simp] theorem State.atSample_air : s.atSample.air = s.air := rfl

/-- While no request has changed T since the newest sample, a capture's conversion reads the part as it
stands (04 R59). -/
theorem State.atSample_of_formed (h : s.arrival.tracker = (s.chan .t).counter.trackerValues) :
    s.atSample = s := by
  simp only [State.atSample, h, Counter.trackerValues]
  rfl

theorem State.acceptPulse_shape (e : Nat) : ∃ l, s.acceptPulse e = { s with line := l } := ⟨_, rfl⟩

/-! ### Passes -/

theorem State.count_shape (g : PassCounters → PassCounters) :
    ∃ p, s.count g = { s with pass := p } := ⟨_, rfl⟩

theorem State.openPass_shape (d : Direction) (o : PassMode) (x y : Int) :
    ∃ t p, s.openPass d o x y = { s with table := t, pass := p } := ⟨_, _, rfl⟩

theorem State.markCrossings_shape : ∃ t, s.markCrossings = { s with table := t } := by
  unfold State.markCrossings
  split <;> exact ⟨_, rfl⟩

theorem State.closeComplete_shape (r : PassReason) :
    ∃ t p u, s.closeComplete r = { s with table := t, pass := p, status := u } := by
  unfold State.closeComplete
  split <;> exact ⟨_, _, _, rfl⟩

theorem State.discardPass_shape (r : PassReason) :
    ∃ t p, s.discardPass r = { s with table := t, pass := p } := by
  unfold State.discardPass
  split <;> exact ⟨_, _, rfl⟩

theorem State.closeAborted_shape (r : PassReason) :
    ∃ t p u, s.closeAborted r = { s with table := t, pass := p, status := u } := by
  unfold State.closeAborted
  split
  · obtain ⟨t, p, h⟩ := s.discardPass_shape r
    rw [h]
    exact ⟨_, _, _, rfl⟩
  · exact ⟨_, _, _, rfl⟩

theorem State.advanceFar_shape (x : Int) :
    ∃ t p, s.advanceFar x = { s with table := t, pass := p } := by
  unfold State.advanceFar State.markCrossings State.setContext
  split
  · exact ⟨_, _, rfl⟩
  · dsimp only
    split <;> exact ⟨_, _, rfl⟩

theorem State.settleTest_shape (dx : Int) :
    ∃ t p u, s.settleTest dx = { s with table := t, pass := p, status := u } := by
  unfold State.settleTest State.closeComplete State.setContext
  dsimp only
  repeat' split
  all_goals exact ⟨_, _, _, rfl⟩

theorem State.autoOpen_shape (x prev : Int) :
    ∃ t p, s.autoOpen x prev = { s with table := t, pass := p } := by
  unfold State.autoOpen State.markCrossings State.openPass
  dsimp only
  repeat' split
  all_goals exact ⟨_, _, rfl⟩

theorem State.runCheck_shape :
    ∃ t p u, s.runCheck = { s with table := t, pass := p, status := u } := by
  unfold State.runCheck State.setPrevX
  dsimp only
  split
  · obtain ⟨t, p, h⟩ := s.advanceFar_shape s.position.x
    rw [h]
    split
    · exact ⟨_, _, _, rfl⟩
    · rename_i prev _
      obtain ⟨t', p', u', h'⟩ :=
        State.settleTest_shape { s with table := t, pass := p } (s.position.x - prev)
      obtain ⟨t2, p2, h2⟩ := State.autoOpen_shape
        (State.settleTest { s with table := t, pass := p } (s.position.x - prev)) s.position.x prev
      rw [h2, h']
      exact ⟨_, _, _, rfl⟩
  · exact ⟨_, _, _, rfl⟩

theorem State.tableCapture_shape (c : Capture) :
    ∃ t p, s.tableCapture c = { s with table := t, pass := p } := by
  unfold State.tableCapture
  dsimp only
  repeat' split
  all_goals exact ⟨_, _, rfl⟩

/-! ### Reference control and captures -/

theorem State.endWait_shape (o : RerefOutcome) (c : Option RerefCapture) (a : Option RerefApplied) :
    ∃ r, s.endWait o c a = { s with reref := r } := by
  unfold State.endWait
  split <;> exact ⟨_, rfl⟩

theorem State.finishWait_shape (o : RerefOutcome) (c : Option RerefCapture)
    (a : Option RerefApplied) :
    ∃ r u, s.finishWait o c a = { s with reref := r, status := u } := by
  unfold State.finishWait
  split
  · obtain ⟨r, h⟩ := s.endWait_shape o c a
    rw [h]
    exact ⟨_, _, rfl⟩
  · exact ⟨_, _, rfl⟩

theorem State.moveValidFrom_shape (k : Nat) : ∃ r, s.moveValidFrom k = { s with reref := r } := by
  unfold State.moveValidFrom
  split <;> exact ⟨_, rfl⟩

theorem State.epochMoved_shape (ch : Channel) : ∃ r, s.epochMoved ch = { s with reref := r } := by
  cases ch with
  | xl => exact s.moveValidFrom_shape _
  | xr => exact s.moveValidFrom_shape _
  | y => exact ⟨_, rfl⟩
  | t => exact ⟨_, rfl⟩

theorem State.applyDatum_shape (c : Capture) (d : Direction) (x : Int) :
    ∃ ch p r u, s.applyDatum c d x = { s with channels := ch, pass := p, reref := r, status := u } := by
  unfold State.applyDatum
  dsimp only
  obtain ⟨r, u, h⟩ := State.finishWait_shape (((s.setCounter .xl
      ((s.chan .xl).counter.rebase (correctionOf x (pathTerm c.pXL c.wEff) c.wEff) c.rEff)).setCounter
      .xr (((s.setCounter .xl ((s.chan .xl).counter.rebase
        (correctionOf x (pathTerm c.pXL c.wEff) c.wEff) c.rEff)).chan .xr).counter.rebase
        (correctionOf x (pathTerm c.pXR c.wEff) c.wEff) c.rEff)).setPrevX none) .done (some c.kept)
    (some ⟨d, x, pathTerm c.pXL c.wEff, pathTerm c.pXR c.wEff,
      correctionOf x (pathTerm c.pXL c.wEff) c.wEff, correctionOf x (pathTerm c.pXR c.wEff) c.wEff⟩)
  rw [h]
  exact ⟨_, _, _, _, rfl⟩

theorem State.rerefCapture_shape (c : Capture) :
    ∃ ch p r u, s.rerefCapture c
      = { s with channels := ch, pass := p, reref := r, status := u } := by
  unfold State.rerefCapture
  split
  · exact ⟨_, _, _, _, rfl⟩
  · split
    · exact ⟨_, _, _, _, rfl⟩
    · split
      · obtain ⟨r, u, h⟩ := s.finishWait_shape .failedNoMotion (some c.kept) none
        exact ⟨_, _, r, u, h⟩
      · exact s.applyDatum_shape c _ _

theorem State.routeCapture_shape (c : Capture) :
    ∃ ch t p r u, s.routeCapture c
      = { s with channels := ch, table := t, pass := p, reref := r, status := u } := by
  unfold State.routeCapture
  split
  · obtain ⟨ch, p, r, u, h⟩ := s.rerefCapture_shape c
    exact ⟨ch, _, p, r, u, h⟩
  · obtain ⟨t, p, h⟩ := s.tableCapture_shape c
    exact ⟨_, t, p, _, _, h⟩

theorem State.completeCapture_shape :
    ∃ ch l t p r u, s.completeCapture
      = { s with channels := ch, line := l, table := t, pass := p, reref := r, status := u } := by
  unfold State.completeCapture
  split
  · exact ⟨_, _, _, _, _, _, rfl⟩
  · split
    · dsimp only
      obtain ⟨ch, t, p, r, u, h⟩ := State.routeCapture_shape
        (s.withLine { s.line with inFlight := none })
        ((s.withLine { s.line with inFlight := none }).formCapture _ _ _)
      rw [h]
      exact ⟨ch, _, t, p, r, u, rfl⟩
    · split <;> exact ⟨_, _, _, _, _, _, rfl⟩

/-! ### Drive port and link -/

theorem State.reportNow_shape : ∃ d, s.reportNow = { s with drive := d } := ⟨_, rfl⟩

theorem State.countReport_shape : ∃ d v, s.countReport = { s with drive := d, arrival := v } := by
  unfold State.countReport
  split <;> exact ⟨_, _, rfl⟩

theorem State.linkFault_shape (f : LinkFault) :
    ∃ l u, s.linkFault f = { s with link := l, status := u } := ⟨_, _, rfl⟩

end Sys2Proof.Machine
end

