-- ==== Sys2Proof/Tests/Slice0.lean ====
section
/-! SUPPORT. Small tests: ill-formed commands, the spec's worked examples, and for every statement a state
and operands that meet its hypotheses. -/

namespace Sys2Proof.Tests

open Sys2Proof.Machine

-- One theorem after the other: each kernel evaluation waits for the ones before it, and a waiting
-- theorem would hold a thread of its own.
set_option Elab.async false

/-! ### Helpers -/

/-- What a command's next state shows. -/
def seen {α : Type} (i : Instr) (s : State) (f : State → α) : Option α :=
  match exec i s with
  | .next t => some (f t)
  | .fault _ => none
  | .refused _ => none

/-- The status of the reply being sent. -/
def replied (t : State) : Option Status := t.link.inService.map (fun q => q.reply.status)

/-- The data of the reply being sent. -/
def replyData (t : State) : Option Bytes := t.link.inService.map (fun q => q.reply.data)

/-- The statuses that commands are answered with, each on the same state. -/
def statuses (s : State) (l : List Instr) : List (Option (Option Status)) :=
  l.map (fun i => seen i s replied)

/-- The same, expected. -/
def answers (l : List Status) : List (Option (Option Status)) := l.map (fun st => some (some st))

def h5 : Header := ⟨5, 9⟩

/-- A counter that tracks. -/
def tracking (p : Int) : Counter :=
  { Counter.initial with state := .tracking, p := p, r0 := 270000 }

/-- A channel that tracks. -/
def unitAt (p : Int) : ChannelUnit := ⟨.initial, tracking p⟩

/-- A record of the example table. -/
def lineAt (line nominal : Int) (st : RecordState) : LineRecord :=
  { line := line, nominal := nominal, halfWidth := 20000000, cls := 1, targetFwd := 1, targetRev := 1
    datum := false, state := st, misses := 0, doubles := 0, complete := false, full := false
    fwd := none, rev := none, pending := none }

/-- The part of 04 section 4.9: XL, XR, Y and T track, with a record of the air and a snapshot; station 5. -/
def w : State :=
  { State.reset with
    newest := some 2500000045
    channels :=
      ⟨unitAt 1000000, unitAt 1000800, unitAt 20000,
        ⟨.initial, { tracking 4000065 with epoch := 7 }⟩⟩
    arrival := { Arrival.idle with tracker := ⟨4000065, 7, .tracking⟩ }
    air :=
      { AirUnit.initial with
        rHost := 270000, ageMs := 12400, snapshot := some ⟨4000000, 7⟩, tPath := 650000000
        dXL := 50000, dXR := 50000, stale := false }
    link := { LinkUnit.initial with station := some 5 } }

/-- The line table of 07 section 7.8. -/
def table3 : List LineRecord :=
  [lineAt 10 10000000000 .armed, lineAt 11 11000000000 .armed, lineAt 12 12000000000 .armed]

/-- An open FWD pass. -/
def pass42 : PassContext :=
  { number := 42, direction := .fwd, origin := .auto, opening := 7, xStart := 9500000000
    xFar := 9500001200, settleRun := 0, counters := .zero }

/-- `w` with the table and the pass. -/
def wPass : State := { w with table := table3, pass := { PassUnit.initial with context := some pass42 } }

/-- `w` with every record state in the table, during the pass. -/
def wStates : State :=
  { wPass with
    table :=
      [lineAt 1 1000000000 .dormant, lineAt 2 2000000000 .primed, lineAt 3 3000000000 .armed,
        { lineAt 4 4000000000 .taken with
          pending := some ⟨4000000000, none, ⟨false, false, false, false, true⟩, .fwd, 42, false⟩ },
        lineAt 5 5000000000 .missed, lineAt 6 6000000000 .retired] }

/-! ### WellFormed -/

def placeFields : PlaceFields := ⟨1, 1000000000, 50000000, 2, 2, 1, 0, 0⟩

/-- Each check of WellFormed refuses an ill-formed term. -/
theorem test_wellFormed_refuses :
    [Instr.powerOnReset 256, .restartLine true 256, .restartTaken 256, .unknownRequest 5 [],
      .unknownRequest 5 [0x0C, 0], .unknownRequest 5 (List.replicate 251 0xFF),
      .fit h5 0 2, .fit h5 256 0, .fitReset h5 256, .fitResult h5 256, .fitSet h5 (2 ^ 32),
      .place h5 { placeFields with nominal := 2 ^ 47 }, .place h5 { placeFields with halfWidth := 2 ^ 32 },
      .amend h5 ⟨2 ^ 31, none, none, none, none, none, none⟩,
      .amend h5 ⟨0, none, none, some 256, none, none, none⟩,
      .arm h5 (2 ^ 31), .disarm h5 (-2 ^ 31 - 1), .retire h5 (2 ^ 31), .drop h5 (2 ^ 31),
      .clear h5 (2 ^ 31), .read h5 (2 ^ 31), .find h5 (2 ^ 47), .stepTable h5 ⟨256, 0, 0⟩,
      .classOpArm h5 256, .classOpDisarm h5 256, .classOpRetire h5 256, .classOpDrop h5 256,
      .classOpClear h5 256, .channelSet h5 ⟨0, 0, 0, 0, 32768, 64, 1, 0⟩, .preset h5 0 (-2 ^ 47 - 1),
      .readChannel h5 256, .airSet h5 (2 ^ 31) 1 1, .airSet h5 0 65536 1, .trackerSet h5 (2 ^ 32),
      .geometrySet h5 ⟨2 ^ 32, 0, 0, 0, 0, 0⟩, .lineSet h5 ⟨0, 0, 2 ^ 32, 0⟩, .passSet h5 ⟨0, 0, 0, 65536⟩,
      .passOpen h5 256, .reref h5 0 65536, .driveSet h5 0 (2 ^ 32), .attnMask h5 65536,
      .linkSet h5 0 256].map Instr.wellFormed = List.replicate 42 false := by
  decide +kernel

/-- The bounds themselves are well formed. -/
theorem test_wellFormed_admits :
    [Instr.powerOnReset 255, .unknownRequest 5 [0x0C], .unknownRequest 5 [0xFF, 0], .fit h5 255 1,
      .place h5 placeFields, .preset h5 0 (-2 ^ 47), .arm h5 (-2 ^ 31), .classOpClear h5 255,
      .linkSet h5 (2 ^ 32 - 1) 255, .ageTick].map Instr.wellFormed = List.replicate 10 true := by
  decide +kernel

/-! ### Numbers (00 R1, 01 sections 1.5 and 1.6, 03 section 3.11) -/

theorem test_rounding :
    roundDiv 24041200 32768 = 734 ∧ roundDiv 5 2 = 3 ∧ roundDiv (-5) 2 = -3 ∧ roundDiv (-7) 16 = 0
      ∧ roundDivSqrt (32768 * 3400) (3200 * 3200 - 4 * 160 * 160) = 34991
      ∧ roundDivSqrt (-32768 * 320) (3200 * 3200 - 4 * 160 * 160) = -3293 := by
  decide +kernel

theorem test_detectorSample :
    pairPhase ⟨100, -100, 34991, 3293⟩ .normal 1300 700 = 89
      ∧ pairAmplitude ⟨100, -100, 34991, 3293⟩ 1300 700 = 1406
      ∧ pairPhase ⟨100, -100, 34991, 3293⟩ .inverted 1300 700 = 935
      ∧ isClipped 1300 700 = false ∧ isClipped 2047 0 = true ∧ isClipped 0 (-2048) = true
      ∧ phaseOf (-1) 0 = 512 ∧ phaseOf 0 (-1) = 768 ∧ phaseOf 0 0 = 0 := by
  decide +kernel

theorem test_syntheticRun :
    [0, 300, 600, 900].map (fun a => (synthCos a, synthSin a)) =
        [(1600, 0), (-427, 1542), (-1372, -823), (1159, -1103)]
      ∧ [0, 300, 600, 900, 1023].map (fun a => pairPhase .nominal .normal (synthCos a) (synthSin a)) =
        [0, 300, 600, 900, 1023]
      ∧ [0, 300, 600, 900].map (fun a => pairPhase .nominal .inverted (synthCos a) (synthSin a)) =
        [0, 724, 424, 124]
      ∧ [0, 300, 600, 900].map (fun a => pairAmplitude .nominal (synthCos a) (synthSin a)) =
        [1600, 1600, 1599, 1599] := by
  decide +kernel

/-- The hypotheses of FrontEndResultsInRange at the ends of the ranges. -/
theorem witness_frontEnd :
    EllipseSet.inRange ⟨-2048, 2047, 65535, -8192⟩ ∧ isCode (-2048) ∧ isCode 2047
      ∧ EllipseSet.inRange ⟨0, 0, 16384, 8192⟩
      ∧ pairAmplitude ⟨-2048, -2048, 65535, -8192⟩ 2047 2047 = 10082 := by
  decide +kernel

/-- FrontEndResultsInRange's front ends: a clipped detector pair at the top of the clip counter and below
it, and a synthetic pair whose angle turns back past 0 (01 R4). -/
theorem witness_frontEndArrives :
    let f := { FrontEnd.initial with clipCount := 4294967295 }
    let g := { FrontEnd.initial with source := .synthetic, synthStep := -5, sense := .inverted, synthAngle := 3 }
    let h := { FrontEnd.initial with clipCount := 4294967294 }
    [f, g, h].map (fun x => let y := x.arrive ⟨2047, 0⟩
        (y.synthAngle, y.clipCount, y.phase, y.amplitude, y.clipped)) =
      [(0, 4294967295, 0, 2047, true), (1022, 0, 1021, 1600, false), (0, 4294967295, 0, 2047, true)]
      ∧ (ChannelUnit.arrive ⟨g, tracking 0⟩ ⟨2047, 0⟩).sample.map (fun m => (m.c, m.s, m.clipped)) =
        some (1600, 29, false)
      ∧ (ChannelUnit.arrive ⟨g, Counter.initial⟩ ⟨2047, 0⟩).sample = none := by
  decide +kernel

/-! ### Counters (02 sections 2.9 to 2.12) -/

/-- The channel of 02 section 2.10. -/
def c210 : Counter := { tracking 1000 with lastPhase := 500, lastStep := 100 }

/-- UnwrapAcceptsNearSteps: each clause at its bounds, and the examples of 02 section 2.10. -/
theorem witness_unwrap :
    [620, 984, 985, 216, 89, 88].map c210.unwrap =
        [.passes 1120 120, .passes 1484 484, .slip 1000, .passes 716 (-284), .slip 1000, .slip 1000]
      ∧ ({ c210 with lastPhase := 200, lastStep := 2040 }).unwrap 180 = .passes 3028 2028
      ∧ ({ c210 with lastPhase := 200, lastStep := 2040 }).unwrap 202 = .slip 1000
      ∧ ({ c210 with p := 140737488355227 }).unwrap 600 = .passes 140737488355327 100
      ∧ ({ c210 with p := 140737488355228 }).unwrap 600 = .slip 140737488355327
      ∧ ({ c210 with p := -140737488355044 }).unwrap 216 = .slip (-140737488355327) := by
  decide +kernel

/-- What a test reads of a counter that has handled a sample. -/
def handled (q : Counter × Nat × Nat) : ChannelState × Int × Nat × Int × Bool :=
  let h := q.1.arrive q.2.1 q.2.2
  (h.counter.state, h.counter.p, h.counter.lastPhase, h.counter.lastStep, h.lost)

/-- A coasting counter. -/
def coasting (p : Int) (phase : Nat) (step : Int) (run limit : Nat) : Counter :=
  { tracking p with
    state := .coasting, lastPhase := phase, lastStep := step, coastRun := run, coastLimit := limit }

/-- The hypotheses of CounterStateTable, row by row (02 sections 2.9, 2.11 and 2.12). -/
theorem witness_counterStates :
    [(Counter.initial, 5, 2000), ({ Counter.initial with state := .dark, acquireRun := 63 }, 77, 432),
      ({ Counter.initial with state := .dark, acquireRun := 62 }, 77, 432),
      ({ Counter.initial with state := .dark, acquireRun := 63 }, 77, 431),
      ({ tracking 9 with state := .unreferenced }, 77, 399),
      ({ c210 with state := .unreferenced }, 88, 1200), ({ c210 with state := .unreferenced }, 620, 400),
      (c210, 88, 1200), ({ tracking 5000000 with lastPhase := 1000, lastStep := 40 }, 20, 1200),
      ({ tracking 5000044 with lastPhase := 20, lastStep := 44 }, 0, 399),
      (coasting 5000132 108 44 2 50, 160, 410), (coasting 5000132 108 44 2 50, 700, 410),
      (coasting 800020 0 10 2 3, 0, 0), (coasting 800030 0 10 3 3, 0, 0),
      ({ tracking 140737488355327 with lastStep := 1 }, 0, 0),
      (coasting (-140737488355327) 0 (-1) 2 3, 0, 0)].map handled =
    [(.off, 0, 0, 0, false), (.unreferenced, 0, 77, 0, false), (.dark, 0, 0, 0, false),
      (.dark, 0, 0, 0, false), (.dark, 9, 0, 0, false), (.unreferenced, 1000, 88, 0, false),
      (.unreferenced, 1120, 620, 120, false), (.unreferenced, 1000, 88, 0, true),
      (.tracking, 5000044, 20, 44, false), (.coasting, 5000088, 64, 44, false),
      (.tracking, 5000184, 160, 52, false), (.unreferenced, 5000132, 700, 0, true),
      (.coasting, 800030, 10, 10, false), (.dark, 800030, 0, 0, true),
      (.unreferenced, 140737488355327, 1, 0, true),
      (.unreferenced, -140737488355327, 1023, 0, true)] := by
  decide +kernel

/-- 02 R29: the trim travel on either side of the interval, and its runs and epochs. -/
theorem witness_counterRuns :
    [1048474, 1048475].map (fun n =>
        let h := ({ tracking 0 with trimInterval := 1, trimTravel := n, lastStep := 101 } : Counter).arrive
          101 500
        (h.counter.trimTravel, h.trim)) = [(1048575, false), (0, true)]
      ∧ [62, 63].map (fun n =>
        (({ Counter.initial with state := .dark, acquireRun := n } : Counter).arrive 1 432).counter.acquireRun)
        = [63, 0]
      ∧ (c210.arrive 88 1200).counter.epoch = 1
      ∧ ((coasting 0 0 0 3 3).arrive 0 0).counter.epoch = 1 := by
  decide +kernel

/-! ### Sample arrivals -/

/-- A strong pair at phase 0, a weak one, and a strong one half a fringe on. -/
def strong : Pair := ⟨1200, 0⟩
def weak : Pair := ⟨10, 0⟩
def opposite : Pair := ⟨-1200, 0⟩

/-- An arrival of four strong pairs, XL's replaced. -/
def arriving (xl : Pair) : SampleInput := ⟨xl, strong, strong, strong, false, []⟩

/-- `w` with Y OFF, its age one sample short of a millisecond and the drive port one short of its
period. -/
def wArrive : State :=
  { w with
    newest := some 2500000047
    channels := { w.channels with y := ⟨.initial, .initial⟩ }
    air := { w.air with ageSamples := 9999 }
    drive := { DriveUnit.initial with enable := true, timer := 999 } }

/-- The hypotheses of SampleArrivalRunsChannels and ArrivalMakesEventsDue, with every event due. -/
theorem witness_arrival :
    wArrive.Quiet ∧ (arriving strong).captureFirst = false
      ∧ seen (.sampleArrival (arriving strong)) wArrive (fun t => (t.newest, t.chan .y)) =
        some (some 2500000048, ⟨.initial, .initial⟩)
      ∧ seen (.sampleArrival (arriving strong)) wArrive (fun t =>
        (t.arrival.check, t.arrival.report, t.arrival.ageTick, t.axis.window.map WindowEntry.markY)) =
        some (true, true, true, [.unref])
      ∧ seen (.sampleArrival (arriving weak)) { wArrive with newest := some 2500000048 } (fun t =>
        (t.arrival.check, (t.chan .xl).counter.state, t.axis.window.map WindowEntry.markXL)) =
        some (false, .coasting, [.coast]) := by
  decide +kernel

/-- `wArrive` with trims due on XL and T, and a drift beyond its limit. -/
def wTrim (fit : FitUnit) : State :=
  { wArrive with
    channels :=
      ⟨⟨.initial, { tracking 0 with trimInterval := 1, trimTravel := 1048575, lastStep := 1, lastPhase := 1023 }⟩,
        unitAt 1000800, ⟨.initial, .initial⟩,
        ⟨.initial,
          { tracking 4000131 with
            epoch := 7, trimInterval := 1, trimTravel := 1048575, lastStep := 1, lastPhase := 1023 }⟩⟩
    air := { wArrive.air with driftLimit := 202 }
    fit := fit }

/-- SampleArrivalRunsChannels: the trims of XL and T in the order the command gives, one of them dropped; the
drift condition from clear to set; the snapshot dropped with T's epoch; the age's samples. -/
theorem witness_arrivalFitAir :
    (wTrim .initial).Quiet
      ∧ [([], FitUnit.initial), ([.t, .xl], .initial),
        ([], { FitUnit.initial with working := some ⟨.y, .long, .host⟩, queue := [⟨.t, .long, .host⟩] })].map
        (fun q => seen (.sampleArrival { arriving strong with trimOrder := q.1 }) (wTrim q.2) (fun t =>
          (t.fit.working.map FitRequest.channel, t.fit.queue.map FitRequest.channel))) =
        [some (some .xl, [.t]), some (some .t, [.xl]), some (some .y, [.t, .xl])]
      ∧ seen (.sampleArrival (arriving strong)) (wTrim .initial) (fun t =>
        (t.air.drift, Event.compDrift.mem t.status.sticky, t.air.ageSamples, t.air.snapshot.isSome)) =
        some (true, true, 0, true)
      ∧ seen (.sampleArrival { arriving strong with t := opposite }) (wTrim .initial) (fun t =>
        (t.air.drift, Event.compDrift.mem t.status.sticky, t.air.snapshot)) = some (false, false, none) := by
  decide +kernel

/-- A wait that the newest sample's successor ends, and one that a loss ends. -/
def wWait (state : ChannelState) (epoch : BitVec 32) : State :=
  { w with
    channels :=
      { w.channels with
        xl := ⟨.initial, { coasting 1000000 0 0 50 50 with state := state, epoch := epoch }⟩ }
    reref := ⟨some ⟨0, some 154500000, some 154499760, 30, 2200000046, 2200000047, 0⟩, none⟩ }

/-- The hypotheses of ArrivalActsOnWait, of ArrivalMakesEventsDue's wait clause and of WaitHasSignal. -/
theorem witness_wait :
    (wWait .coasting 17).Quiet ∧ (wWait .coasting 17).WaitHasSignal
      ∧ seen (.sampleArrival (arriving weak)) (wWait .coasting 17) (fun t =>
        ((t.chan .xl).counter.state, t.reref.wait, t.reref.result.map RerefResult.outcome)) =
        some (.dark, none, some .failedSignal)
      ∧ seen (.sampleArrival (arriving opposite)) (wWait .unreferenced 17) (fun t =>
        (t.reref.wait.map Wait.validFrom, t.arrival.rerefExpiry)) = some (some 2500000046, true) := by
  refine ⟨by decide +kernel, ?_, by decide +kernel, by decide +kernel⟩
  intro _ ch hch
  rcases hch with rfl | rfl <;> decide +kernel

/-- ArrivalActsOnWait: a strong sample of a TRACKING XL leaves reference control as it is. -/
theorem witness_waitUntouched :
    (wWait .tracking 0).Quiet
      ∧ seen (.sampleArrival (arriving strong)) (wWait .tracking 0) (fun t =>
        decide (t.reref = (wWait .tracking 0).reref)) = some true := by
  decide +kernel

/-- 08 R142, R143: the wait timer's sample takes XL to DARK; the model ends the wait FAILED_SIGNAL and the
expiry then finds none (log entry 31). -/
theorem test_expiryWithLoss :
    let s := wWait .coasting 17
    let s := { s with reref := { s.reref with wait := s.reref.wait.map (fun v =>
      { v with accepting := 2500000046 - 300000000 }) } }
    (match exec (.sampleArrival (arriving weak)) s with
      | .next t => (t.arrival.rerefExpiry, seen .rerefTimerExpiry t (fun u =>
          (u.arrival.rerefExpiry, u.reref.result.map RerefResult.outcome)))
      | .fault _ => (false, none)
      | .refused _ => (false, none)) = (true, some (false, some .failedSignal)) := by
  decide +kernel

/-- The hypotheses of ReferenceLossAbortsPass. -/
theorem witness_referenceLoss :
    wStates.Quiet ∧ wStates.pass.context = some pass42 ∧ wStates.referenced .xl = true
      ∧ ((wStates.chan .xl).arrive opposite).unit.counter.state = .unreferenced
      ∧ seen (.sampleArrival (arriving opposite)) wStates (fun t =>
        (t.pass.context, t.table.map LineRecord.state, t.pass.last.map PassSummary.reason)) =
        some (none, [.dormant, .primed, .armed, .armed, .armed, .retired], some .referenceLost) := by
  decide +kernel

/-! ### The part's own events -/

/-- An age of `ms` with a tick due. -/
def wAge (ms : Nat) : State :=
  { w with air := { w.air with ageMs := ms }, arrival := { Arrival.idle with ageTick := true } }

/-- AgeTickCounts at its three bounds. -/
theorem witness_ageTick :
    [59999, 60000, 60001].map (fun ms => seen .ageTick (wAge ms) (fun t =>
      (t.air.ageMs, t.air.stale, t.arrival.ageTick, Event.compStale.mem t.status.sticky))) =
    [some (60000, false, false, false), some (60001, true, false, true),
      some (60001, false, false, false)] := by
  decide +kernel

/-- A check due on the part of 05 section 5.1, whose X is 154,515,064 pm. -/
def wCheck (prev : Option Int) (c : Option PassContext) : State :=
  { w with
    table :=
      [{ lineAt 0 154500000 .primed with halfWidth := 100000 },
        { lineAt 1 154514900 .armed with halfWidth := 100 }]
    pass := { PassUnit.initial with prevX := prev, context := c, number := 41 }
    arrival := { Arrival.idle with check := true } }

/-- The position of 05 section 5.1. -/
theorem test_position :
    (w.position.x, w.position.yaw, w.position.y, w.position.xValid) = (154515064, 1236, 3089166, true)
      ∧ w.position.marks = ⟨false, false, false, false, false⟩ := by
  decide +kernel

/-- CheckWithoutDelta and CheckOpensPass at the start threshold: the previous check X and the open pass. -/
theorem witness_checkOpens :
    [wCheck none none, { wCheck (some 1) none with channels := .all ⟨.initial, .initial⟩ },
      wCheck (some (154515064 - 799)) none, wCheck (some (154515064 - 800)) none].map
      (fun s => seen .check s (fun t =>
        (t.pass.prevX, t.pass.context.map (fun c => (c.number, c.direction, c.xStart))))) =
    [some (some 154515064, none), some (none, none), some (some 154515064, none),
      some (some 154515064, some (42, .fwd, 154514264))] := by
  decide +kernel

/-- CheckWithoutDelta: no pass opens in HOST mode or while WAITING; an open pass with no previous check X
moves X_far and marks what it crossed, its settle run kept. -/
theorem witness_checkNoDelta :
    let far := wCheck (some 0) none
    [{ far with pass := { far.pass with mode := .host } }, { far with reref := (wWait .tracking 0).reref },
      wCheck none (some { pass42 with xStart := 154000000, xFar := 154514000, settleRun := 5 })].map
      (fun s => seen .check s (fun t =>
        (t.pass.prevX, t.pass.context.map (fun c => (c.xFar, c.settleRun)), t.table.map LineRecord.state))) =
    [some (some 154515064, none, [.primed, .armed]), some (some 154515064, none, [.primed, .armed]),
      some (some 154515064, some (154515064, 5), [.primed, .missed])] := by
  decide +kernel

/-- CheckOpensPass: a PRIMED record joins, a crossed one is missed. -/
theorem witness_checkOpensTable :
    seen .check (wCheck (some (154515064 - 800)) none) (fun t => t.table.map LineRecord.state) =
      some [.armed, .missed] := by
  decide +kernel

/-- An open FWD pass that has reached 154,514,000 pm. -/
def passAt (run : Nat) : PassContext :=
  { pass42 with xStart := 154000000, xFar := 154514000, settleRun := run }

/-- The open pass as a test reads it: number, X_far, settle run. -/
def openPass (t : State) : List Int :=
  match t.pass.context with
  | none => []
  | some c => [c.number.toNat, c.xFar, c.settleRun]

/-- The last pass as a test reads it: reason code, misses, committed. -/
def lastPass (t : State) : List Nat :=
  match t.pass.last with
  | none => []
  | some m => [m.reason.code, m.misses, m.committed]

/-- CheckAdvancesPass, CheckClosesAtStandstill and CheckReversesPass at their bounds: quiet, not quiet,
opposed below the threshold, the last quiet check, and a reversal. -/
theorem witness_checkPass :
    [((154515064 : Int), 623), (154515064 - 160, 624), (154515064 + 799, 3), (154515064, 624),
      (154515064 + 800, 3)].map
      (fun q => seen .check (wCheck (some q.1) (some (passAt q.2))) (fun t => (openPass t, lastPass t))) =
    [some ([42, 154515064, 624], []), some ([42, 154515064, 0], []), some ([42, 154515064, 0], []),
      some ([], [0, 1, 0]), some ([42, 154515064, 0], [1, 1, 0])] := by
  decide +kernel

/-! ### Records at a commit (06 section 6.9) -/

/-- A pending part of line 1 of 06 section 6.9. -/
def part (x : Int) (y : Option Int) (stale : Bool) (d : Direction) (n : BitVec 32) (double : Bool) :
    PendingPart := ⟨x, y, ⟨false, stale, false, false, y.isNone⟩, d, n, double⟩

/-- Line 1 TAKEN with a pending part. -/
def taken (r : LineRecord) (p : PendingPart) : LineRecord := r.take p

/-- CommitSettlesRecord and the invariants of a record: the five passes of 06 section 6.9. -/
theorem witness_commit :
    let r0 := { lineAt 1 1000000000 .armed with targetFwd := 2 }
    let r1 := (taken r0 (part 1000000120 (some 3000) false .fwd 17 false)).commit
    let r2 := (taken r1 (part 999999880 none true .rev 18 false)).commit
    let r3 := (taken r2 (part 1000000131 (some 1) false .fwd 19 true)).commit
    let r4 := ({ r3 with state := .missed } : LineRecord).commit
    let r5 := (taken r4 (part 1000000135 (some 3200) false .fwd 21 false)).commit
    [r1, r2, r3, r4, r5].map LineRecord.state = [.armed, .armed, .armed, .armed, .dormant]
      ∧ (r5.misses, r5.doubles, r5.complete, r5.full, r5.pending) = (1, 1, true, false, none)
      ∧ r5.fwd = some ⟨2, 2000000255, 1000000120, 1000000135, 1000000135, 2, 6200, 0, 21⟩
      ∧ r5.rev = some ⟨1, 999999880, 999999880, 999999880, 999999880, 0, 0, 1, 18⟩
      ∧ r5.fwd.map Half.meanX = some 1000000128 ∧ r5.fwdMinusRev = some 248 := by
  decide +kernel

/-- CommitSettlesRecord's full half, also with a double: FULL, DORMANT, the double not counted. -/
theorem witness_commitFull :
    let h : Half := ⟨65535, 65535, 1, 1, 1, 0, 0, 0, 1⟩
    let r := taken { lineAt 1 0 .armed with fwd := some h } (part 1 none false .fwd 2 true)
    let r' := ({ lineAt 1 0 .missed with misses := 65535 } : LineRecord).commit
    (r.commit.state, r.commit.full, r.commit.doubles, r.commit.fwd) = (.dormant, true, 0, some h)
      ∧ [r, { r with fwd := some { h with n := 65534 } },
        taken { lineAt 1 0 .armed with fwd := some { h with n := 65534 } } (part 1 none false .fwd 2 false)].map
          LineRecord.commits = [false, false, true]
      ∧ (r'.state, r'.misses) = (.armed, 65535) := by
  decide +kernel

/-! ### Pulses and captures (05 section 5.7, 08 section 8.5) -/

/-- The window of 05 section 5.7. -/
def entry0 : WindowEntry := ⟨2500000030, 1000000, 1000800, 310114, .ref, .ref, .unref⟩
def entry1 : WindowEntry := ⟨2500000031, 1000640, 1001440, 310752, .ref, .ref, .unref⟩

/-- The part of 05 section 5.7 just after sample k + 1. -/
def wLine : State :=
  { w with
    newest := some 2500000031
    axis := { AxisUnit.initial with window := [entry1, entry0] }
    line := ⟨true, .rising, 1500, 2000, some 249999004512, none⟩ }

/-- PulseTakenOrCrowded's cases: the example's pulse, an edge of the other polarity, the spacing's last
crowded nanosecond, an instant before sample 0, a bracket that left the window, and one still to come. -/
theorem witness_pulse :
    wLine.Quiet
      ∧ [(wLine, Edge.rising, 250000004530), (wLine, .falling, 250000004530),
        (wLine, .rising, 249999006511), (wLine, .rising, 249999006512),
        ({ wLine with line := { wLine.line with lastEdge := none } }, .rising, 1499),
        (wLine, .rising, 250000004700)].map
        (fun q => seen (.pulseArrival q.2.1 q.2.2) q.1 (fun t => (t.line.lastEdge, t.line.inFlight))) =
        [some (some 250000004530, some ⟨2500000030, 30⟩), some (some 249999004512, none),
          some (some 249999004512, none), some (some 249999006512, none), some (some 1499, none),
          some (some 250000004700, some ⟨2500000032, 0⟩)]
      ∧ seen (.pulseArrival .rising 249999006511) { wLine with pass := wPass.pass } (fun t =>
        t.pass.context.map (fun c => c.counters.crowded)) = some (some 1) := by
  decide +kernel

/-- CaptureFieldsFromBracket: the capture of 05 section 5.7. -/
theorem witness_capture :
    let c := wLine.formCapture 30 entry0 entry1
    (c.pXL, c.pXR, c.pY, c.lXL, c.lXR) = (1000192, 1000992, none, 154482937, 154606503)
      ∧ (c.x, c.yaw, c.y, c.ref, c.direction) = (154544720, 1236, none, true, .fwd)
      ∧ c.marks = ⟨false, false, false, false, true⟩ ∧ c.marks.flagged = false
      ∧ (c.rEff, c.wEff) = (270100, 2591379940) := by
  decide +kernel

/-- 04 R59, 05 R88: a PRESET of T after sample k + 1 reaches the conversions made at requests and not the
capture that a later pulse forms, which reads T as its counter formed it for that sample. -/
theorem test_captureAfterPreset :
    seen (.preset h5 3 0) wLine (fun t =>
      (t.trackerTerm.isNone, t.rEff, (t.formCapture 30 entry0 entry1).rEff,
        (t.formCapture 30 entry0 entry1).marks.noTracker)) = some (true, 270000, 270100, false) := by
  decide +kernel

/-- 04 R59: an arrival hands on T's count, epoch and state as formed for its sample. -/
theorem test_trackerOfArrival :
    seen (.sampleArrival (arriving strong)) w (fun t =>
      decide (t.arrival.tracker = (t.chan .t).counter.trackerValues)) = some true := by
  decide +kernel

/-- `wLine` with the capture in flight, a record about it and a pass or none. -/
def wFlight (st : RecordState) (pending : Option PendingPart) (c : Option PassContext) : State :=
  { wLine with
    line := { wLine.line with inFlight := some ⟨2500000030, 30⟩ }
    table := [{ lineAt 0 154540000 st with pending := pending }]
    pass := { PassUnit.initial with context := c } }

/-- CaptureReachesTable: no pass, then ARMED, MISSED, TAKEN, a record that takes no part, the other
direction, and no window. -/
theorem witness_tableCapture :
    (wFlight .armed none (some pass42)).TableOrdered
      ∧ (wFlight .armed none none).arrival.resetInstall = .all false
      ∧ seen .captureFormed (wFlight .armed none none) (fun t => (t.pass.idleStrays, t.line.inFlight)) =
        some (1, none)
      ∧ [wFlight .armed none (some pass42), wFlight .missed none (some pass42),
        wFlight .taken (some (part 1 none false .fwd 42 false)) (some pass42),
        wFlight .dormant none (some pass42), wFlight .armed none (some { pass42 with direction := .rev }),
        { wFlight .armed none (some pass42) with table := [] }].map
        (fun s => seen .captureFormed s (fun t =>
          (t.pass.context.map PassContext.counters, t.table.map LineRecord.state))) =
        [some (some ⟨1, 1, 0, 0, 0, 0, 0⟩, [.taken]), some (some ⟨1, 0, 1, 0, 0, 0, 0⟩, [.taken]),
          some (some ⟨1, 0, 0, 1, 0, 0, 0⟩, [.taken]), some (some ⟨1, 0, 0, 0, 1, 0, 0⟩, [.dormant]),
          some (some ⟨1, 0, 0, 0, 1, 0, 0⟩, [.armed]), some (some ⟨1, 0, 0, 0, 1, 0, 0⟩, [])] := by
  refine ⟨?_, by decide +kernel⟩
  unfold State.TableOrdered
  decide +kernel

/-- CaptureReachesTable: an entry still to come, and a bracket that has left the window. -/
theorem witness_captureWaits :
    let s := wFlight .armed none none
    [some 2500000032, some 2500000031, some 2500000029].map (fun k =>
      seen .captureFormed { s with line := { s.line with inFlight := k.map (fun k => ⟨k, 0⟩) } } (fun t =>
        t.line.inFlight.isSome)) = [some true, some true, some false] := by
  decide +kernel

/-- The part of 08 section 8.5 at its datum capture. -/
def wDatum (validFrom : Nat) (fwd : Option Int) : State :=
  { wFlight .armed none none with
    channels :=
      { w.channels with
        xl := ⟨.initial, { tracking 1000640 with state := .unreferenced, epoch := 18 }⟩
        xr := ⟨.initial, { tracking 1001440 with state := .unreferenced, epoch := 10 }⟩ }
    reref := ⟨some ⟨0, fwd, some 154499760, 30, 2260000030, validFrom, 0⟩, none⟩ }

/-- CaptureAnswersWait: the example's re-base, a discard at the bound, the other half's target, and no
motion. -/
theorem witness_datum :
    (wDatum 2500000030 (some 154500000)).QuietArrival = False
      ∧ seen .captureFormed (wDatum 2500000030 (some 154500000)) (fun t =>
        ((t.chan .xl).counter.p, (t.chan .xr).counter.p, (t.chan .xl).counter.epoch,
          (t.chan .xr).counter.state, (t.chan .xl).counter.r0)) =
        some (1000718, 1000718, 19, .tracking, 270100)
      ∧ seen .captureFormed (wDatum 2500000030 (some 154500000)) (fun t =>
        t.reref.result.bind RerefResult.applied) =
        some (some ⟨.fwd, 154500000, 154487937, 154611503, 78, -722⟩)
      ∧ seen .captureFormed (wDatum 2500000031 (some 154500000)) (fun t =>
        t.reref.wait.map Wait.discarded) = some (some 1)
      ∧ seen .captureFormed (wDatum 2500000030 none) (fun t =>
        (t.reref.result.bind RerefResult.applied).map (fun a => (a.half, a.target))) =
        some (some (.rev, 154499760))
      ∧ seen .captureFormed
        { wDatum 2500000030 none with
          axis := { AxisUnit.initial with window := [{ entry1 with pXL := 1000000, pXR := 1000800 }, entry0] } }
        (fun t => (t.reref.wait, t.reref.result.map RerefResult.outcome, (t.chan .xl).counter.epoch)) =
        some (none, some .failedNoMotion, 18) := by
  refine ⟨?_, by decide +kernel⟩
  exact eq_false (by decide +kernel)

/-- `wDatum` with a fit of XL that begins on a sample which left XL COASTING. -/
def wRebaseFit : State :=
  { wDatum 2500000030 (some 154500000) with
    channels :=
      { w.channels with
        xl := ⟨.initial, coasting 1000640 0 0 1 50⟩, xr := ⟨.initial, tracking 1001440⟩ }
    fit := { FitUnit.initial with working := some ⟨.xl, .short, .host⟩ }
    arrival :=
      { Arrival.idle with
        fitBegin := true, samples := { Arrival.idle.samples with xl := some ⟨10, 0, false, none⟩ } } }

/-- The codes of XL's state, of its fit's outcome and of the wait's after a run of commands. -/
def fitAndWait (l : List Instr) (s : State) : List Nat :=
  match runCommands l s with
  | .next t =>
    (t.chan .xl).counter.state.code :: ((t.fit.result.get .xl).map (fun r => r.outcome.code)).toList
      ++ (t.reref.result.map (fun r => r.outcome.code)).toList
  | .fault _ => []
  | .refused _ => []

/-- 03 R43, R52, 02 R28: a fit whose first sample left XL COASTING is abandoned, though the re-base of a
capture at the same arrival leaves XL TRACKING, in either order of the commands: TRACKING, ABANDONED_SIGNAL,
DONE. -/
theorem test_fitBeginBeforeRebase :
    [[.captureFormed, .fitBegin], [.fitBegin, .captureFormed]].map (fun l => fitAndWait l wRebaseFit) =
      List.replicate 2 [3, 4, 0] := by
  decide +kernel

/-- The same part before the arrival that takes XL to DARK and completes the capture. -/
def wEnding : State :=
  { wRebaseFit with
    channels := { wRebaseFit.channels with xl := ⟨.initial, coasting 1000640 0 0 50 50⟩ }
    line := { wLine.line with inFlight := some ⟨2500000031, 30⟩ }
    arrival := .idle }

/-- ArrivalActsOnWait (08 R143, R145): the capture first is discarded, the ending first finds it in flight;
the fit is abandoned either way. -/
theorem witness_captureFirst :
    wEnding.Quiet
      ∧ [true, false].map (fun b =>
        fitAndWait [.sampleArrival { arriving weak with captureFirst := b }, .fitBegin] wEnding) =
        List.replicate 2 [1, 4, 2]
      ∧ [true, false].map (fun b =>
        seen (.sampleArrival { arriving weak with captureFirst := b }) wEnding (fun t =>
          (t.reref.result.map RerefResult.discarded, t.line.inFlight.isSome))) =
        [some (some 1, false), some (some 0, true)] := by
  decide +kernel

/-- CaptureAnswersWait's hypotheses. -/
theorem witness_datumDue :
    let s := wDatum 2500000030 (some 154500000)
    s.arrival = { Arrival.idle with tracker := ⟨4000065, 7, .tracking⟩ }
      ∧ s.newest = some 2500000031 ∧ s.axis.entry 2500000030 = some entry0
      ∧ s.axis.entry (nextIndex 2500000030) = some entry1 := by
  decide +kernel

/-- ConversionRangeAndCorrection at the ends of its ranges, and the numbers of 08 section 8.5. -/
theorem witness_conversion :
    w.rEff = 270100 ∧ w.wEff = 2591379940
      ∧ effectiveScale 1000000000 1000000 = 999000999 ∧ effectiveScale 4294967295 0 = 4294967295
      ∧ correctionOf 154500000 154487937 2591379940 = 78
      ∧ correctionOf 154500000 154611503 2591379940 = -722
      ∧ pathTerm 1000270 2591379940 = 154499985
      ∧ w.trackerTerm = some (65, 100)
      ∧ [{ w with air := { w.air with tPath := 0 } }, { w with air := { w.air with snapshot := none } },
        w.setCounter .t { tracking 4000065 with epoch := 8 },
        w.setCounter .t { tracking 4000065 with epoch := 7, state := .dark }].map
        (fun s => (s.trackerTerm, s.rEff)) = List.replicate 4 (none, 270000)
      ∧ [-300000, 800000].map (fun p =>
        (w.setCounter .t { tracking (4000000 + p) with epoch := 7 }).rEff) = [0, 1000000] := by
  decide +kernel

/-! ### The fit unit (03 sections 3.11 and 3.12) -/

/-- The arithmetic of the worked fits, and weak ones at their bounds. -/
theorem witness_fitArithmetic :
    longArithmetic 400 ⟨1800, -1600, 1500, -1700, 60⟩ =
        ⟨some (3400, 3200), some ⟨100, -100, 34991, 3293⟩, false, none⟩
      ∧ shortArithmetic 400 ⟨100, -100, 34991, 3293⟩ ⟨1840, -1580, 1480, -1735, 0⟩ =
        ⟨some (3420, 3215), some ⟨103, -103, 34991, 3293⟩, false, none⟩
      ∧ shortArithmetic 400 ⟨100, -100, 34991, 3293⟩ ⟨399, -400, 1480, -1735, 0⟩ =
        ⟨some (799, 3215), none, false, none⟩
      ∧ shortArithmetic 400 ⟨2047, -2048, 65535, 0⟩ ⟨400, -400, 500, -300, 0⟩ =
        ⟨some (800, 800), some ⟨2031, -2032, 65535, 0⟩, false, none⟩
      ∧ [(0, 7), (0, 8), (0, -7), (0, -8), (5, -130), (5, -131), (0, 2000)].map (fun q => offsetStep q.2 q.1) =
        [0, 1, 0, -1, -16, -16, 16]
      ∧ (longArithmetic 400 ⟨399, -400, 1500, -1700, 0⟩).newSet = none
      ∧ (longArithmetic 400 ⟨400, -400, 1500, -1700, 0⟩).newSet.isSome = true
      ∧ (longArithmetic 400 ⟨1800, -1600, 1600, -1600, 800⟩).newSet = none
      ∧ (longArithmetic 400 ⟨1800, -1600, 1600, -1600, 799⟩).clamped = true := by
  decide +kernel

/-- The part whose XL fit completes: the accumulator of 03 section 3.11 and the completing sample. -/
def wFit (c : Int) : State :=
  { w with
    channels :=
      { w.channels with xl := ⟨.initial, { tracking 1000000 with lastPhase := 1015, lastStep := 40 }⟩ }
    fit :=
      { FitUnit.initial with
        working := some ⟨.xl, .long, .host⟩
        acc := ⟨900, 890, 16400, some ⟨1800, -1600, 1500, -1700, 60⟩⟩
        queue := [⟨.y, .short, .trim⟩] }
    arrival :=
      { Arrival.idle with
        fitComplete := true, samples := { Arrival.idle.samples with xl := some ⟨c, -100, false, some 40⟩ } } }

/-- FitCompletes: the swap of 03 section 3.11, a jump too large, and a weak fit. -/
theorem witness_fitCompletes :
    [wFit 1791, wFit 100, { wFit 1791 with fit := { (wFit 1791).fit with acc := .empty } }].map (fun s =>
      seen .fitComplete s (fun t =>
        ((t.chan .xl).front.params.g, (t.chan .xl).counter.lastPhase,
          (t.fit.result.get .xl).map FitResult.outcome))) =
    [some (34991, 1008, some .applied), some (32768, 1015, some .rejectedJump),
      some (32768, 1015, some .rejectedWeak)] := by
  decide +kernel

/-- FitCompletes: the jump of 03 section 3.11, and the waiting request left in the queue. -/
theorem witness_fitJump :
    seen .fitComplete (wFit 1791) (fun t =>
      ((t.fit.result.get .xl).bind FitResult.jump, t.fit.working, t.fit.queue.length)) =
      some (some (-7), none, 1) := by
  decide +kernel

/-- FitBeginsAndSlotFills: a fit that begins, one abandoned on its first sample, a slot that fills, one that
does not. -/
theorem witness_fitBegins :
    let begin_ := { wFit 1791 with arrival := { (wFit 1791).arrival with fitBegin := true } }
    [begin_, { begin_ with channels := { w.channels with xl := ⟨.initial, coasting 0 0 0 1 50⟩ } }].map
        (fun s => seen .fitBegin s (fun t =>
          (t.fit.acc.observed, t.fit.timer.map FitTimer.firstSample,
            (t.fit.result.get .xl).map FitResult.outcome))) =
        [some (1, some 2500000045, none), some (0, none, some .abandonedSignal)]
      ∧ [wFit 1791, { wFit 1791 with fit := (wFit 1791).fit.emptySlot }].map (fun s =>
        seen .slotFill s (fun t => (t.fit.working.map FitRequest.channel, t.fit.queue.length))) =
        [some (some .xl, 1), some (some .y, 0)] := by
  decide +kernel

/-- `w` with XL's fit under way at a travel. -/
def wFeed (travel : Nat) : State :=
  { w with
    fit :=
      { FitUnit.initial with
        working := some ⟨.xl, .short, .trim⟩, timer := some ⟨2500000000, 5000⟩
        acc := ⟨3, 3, travel, some ⟨1, 1, 1, 1, 1⟩⟩ } }

/-- ArrivalFeedsFit: travel one short of the amount, travel at it, and a channel that goes COASTING. -/
theorem witness_feedFit :
    (wFeed 4095).Quiet ∧ (wFeed 4095).FitUnitSound
      ∧ [(wFeed 4085, strong), (wFeed 4086, strong), (wFeed 4086, weak)].map (fun q =>
        seen (.sampleArrival (arriving q.2))
          (q.1.setCounter .xl { tracking 0 with lastPhase := 1014 }) (fun t =>
          (t.fit.acc.travel, t.arrival.fitComplete, (t.fit.result.get .xl).map FitResult.outcome))) =
        [some (4095, false, none), some (4096, true, none), some (0, false, some .abandonedSignal)] := by
  refine ⟨by decide +kernel, ⟨by decide +kernel, by decide +kernel, fun h => ?_⟩, by decide +kernel⟩
  cases h

/-- TimersExpire: the fit timer just before and at the earliest arrival it may expire after, and a wait. -/
theorem witness_timers :
    [2549999998, 2549999999].map (fun k =>
        seen .fitTimerExpiry { wFeed 0 with newest := some k } (fun t =>
          (t.fit.result.get .xl).map FitResult.outcome)) = [some none, some (some .abandonedTimeout)]
      ∧ seen .rerefTimerExpiry
        { wWait .tracking 1 with arrival := { Arrival.idle with rerefExpiry := true } }
        (fun t => t.reref.result.map RerefResult.outcome) = some (some .failedTimeout)
      ∧ seen .fitTimerExpiry w (fun t => decide (t = w)) = some true := by
  decide +kernel

/-- A pending reset of XL due with the pair of 03 section 3.11. -/
def wReset (c : Counter) : State :=
  { w with
    channels := { w.channels with xl := ⟨{ FrontEnd.initial with params := ⟨100, -100, 34991, 3293⟩ }, c⟩ }
    fit := { FitUnit.initial with pendingReset := { FitUnit.initial.pendingReset with xl := true } }
    arrival :=
      { Arrival.idle with
        samples := { Arrival.idle.samples with xl := some ⟨1791, -100, false, some 40⟩ }
        resetInstall := { Arrival.idle.resetInstall with xl := true } } }

/-- ResetInstalls: with a phase and without. -/
theorem witness_resetInstalls :
    [wReset (tracking 5), wReset (coasting 5 9 0 1 50)].map (fun s =>
      seen (.resetInstall .xl) s (fun t =>
        ((t.chan .xl).front.params.g, (t.chan .xl).counter.lastPhase,
          (t.fit.result.get .xl).bind FitResult.jump))) =
    [some (32768, 1015, some 7), some (32768, 9, none)] := by
  decide +kernel

/-! ### The drive port, resets and restarts -/

/-- `wArrive` with a report due and last valid values. -/
def wReport (channels : PerChannel ChannelUnit) (last : Option (Int × Int)) : State :=
  { wArrive with
    channels := channels
    drive := { wArrive.drive with lastXYaw := last }
    arrival := { Arrival.idle with report := true } }

/-- A frame as a test reads it: its length, and lead byte, X, flags and marks. -/
def frameOf (t : State) : Nat × Bytes :=
  let f := t.drive.sending.getD []
  (f.length, f.take 1 ++ (f.drop 11).take 6 ++ (f.drop 27).take 2)

/-- ReportFormsFrame: fresh values, then held and zero values; 32 bytes each. -/
theorem witness_report :
    [wReport wArrive.channels none, wReport (.all ⟨.initial, .initial⟩) (some (1, 2)),
      wReport (.all ⟨.initial, .initial⟩) none].map (fun s => seen .reportExpiry s frameOf) =
    [some (32, [0xA7, 0, 0, 9, 0x35, 0xB6, 0x78, 1, 0]), some (32, [0xA7, 0, 0, 0, 0, 0, 1, 2, 8]),
      some (32, [0xA7, 0, 0, 0, 0, 0, 0, 0, 8])] := by
  decide +kernel

/-- 11 R179: the lead byte 0xA7 leaves most significant bit first; an idle port sends nothing. -/
theorem test_driveBits :
    (State.driveBits { w with drive := { DriveUnit.initial with sending := some [0xA7, 1] } }) =
        some ([true, false, true, false, false, true, true, true] ++ List.replicate 7 false ++ [true])
      ∧ w.driveBits = none := by
  decide +kernel

/-- The frame leaves the port. -/
theorem test_driveFrameEnd :
    seen .driveFrameEnd { w with drive := { DriveUnit.initial with sending := some [0xA7] } }
      (fun t => t.drive.sending) = some none := by
  decide +kernel

/-- PowerOnResetValues and RestartReachesEveryBlock: the strap settings at their bounds, the transition of
the line, a line held active, and a RESTART's restart. -/
theorem witness_restart :
    [0, 1, 254, 255].map (fun n => seen (.powerOnReset n) wPass (fun t => t.link.station)) =
        [some none, some (some 1), some (some 254), some none]
      ∧ [(true, wPass), (false, wPass), (true, { wPass with restartLine := true })].map (fun q =>
        seen (.restartLine q.1 7) q.2 (fun t => (t.link.station, t.pass.context.isSome))) =
        [some (some 7, false), some (some 5, true), some (some 5, true)]
      ∧ [false, true].map (fun b =>
        seen (.restartTaken 7) { wPass with arrival := { Arrival.idle with restart := b } }
          (fun t => ((t.chan .xl).counter.state, t.arrival.restart))) =
        [some (.tracking, false), some (.dark, false)] := by
  decide +kernel

/-! ### The link -/

/-- `w` with a receiver in a state. -/
def wRx (st : RxState) (crc : BitVec 16) : State :=
  { w with link := { w.link with rx := ⟨st, 5, 2, [0x58], 0x12, crc⟩ } }

/-- ReceiverStateTable: every state's action on a character, the bounds of LEN among them. -/
theorem witness_receiver :
    (wRx .crcLow 0).Quiet
      ∧ [(RxState.hunt, (0xD2 : Byte)), (.hunt, 0xD3), (.address, 7), (.length, 0), (.length, 1),
        (.length, 250), (.length, 251), (.payload, 3), (.crcHigh, 1), (.crcLow, 2)].map (fun q =>
        seen (.receiveCharacter q.2 true) (wRx q.1 0x1233) (fun t =>
          (t.link.rx.state, t.link.counters.lengthErrors, t.link.counters.crcErrors))) =
        [some (.address, 0, 0), some (.hunt, 0, 0), some (.length, 0, 0), some (.hunt, 1, 0),
          some (.payload, 0, 0), some (.payload, 0, 0), some (.hunt, 1, 0), some (.crcHigh, 0, 0),
          some (.crcLow, 0, 0), some (.hunt, 0, 1)] := by
  decide +kernel

/-- ReceiverStateTable: character errors and gaps in HUNT and outside it. -/
theorem witness_receiverFaults :
    [RxState.hunt, .address].map (fun st => (seen (.receiveCharacter 0xD2 false) (wRx st 0) (fun t =>
        (t.link.rx.state, t.link.counters.characterErrors)),
      seen .gapExpiry (wRx st 0) (fun t => (t.link.rx.state, t.link.counters.gapAborts)))) =
    [(some (.hunt, 0), some (.hunt, 0)), (some (.hunt, 1), some (.hunt, 1))] := by
  decide +kernel

/-- 09 R155's check value; DecodeOfEncodedPayload and FrameBytesEqualRequest on a request with every kind of
field, sent to the station byte by byte. -/
theorem witness_frames :
    crcOf [0x31, 0x32, 0x33, 0x34, 0x35, 0x36, 0x37, 0x38, 0x39] = 0x29B1
      ∧ (Request.place placeFields).wellFormed = true
      ∧ encodePayload 9 (.amend ⟨-1, some (-2), none, some 7, none, none, some 1⟩) =
        [0x02, 9, 0xFF, 0xFF, 0xFF, 0xFF, 0x25, 0xFF, 0xFF, 0xFF, 0xFF, 0xFF, 0xFE, 0, 0, 0, 0, 7, 0, 0, 1]
      ∧ decodePayload [0x48, 3, 0, 0, 0, 10, 0x02, 0x58] = .request 3 (.reref 10 600)
      ∧ w.Quiet ∧ w.link.rx = .hunting
      ∧ (Instr.place h5 placeFields).request = some (h5, .place placeFields) := by
  decide +kernel

/-- FrameBytesEqualRequest on one frame. -/
theorem test_frameOfRequest :
    (match receiveAll (linkFrame 5 (encodePayload 9 (.driveSet 1 50))) w with
      | .next t => some (t.drive, t.link)
      | .fault _ => none
      | .refused _ => none) = seen (.driveSet h5 1 50) w (fun t => (t.drive, t.link)) := by
  decide +kernel

/-- `w` with a request in service and a frame in the buffer or none. -/
def wBusy (after : AfterReply) (buffer : Option Frame) : State :=
  { w with
    link :=
      { w.link with
        group := 64, inService := some ⟨⟨5, 0x58, 1, .ok, []⟩, after⟩, buffer := buffer } }

/-- RequestAddressedAndBuffered: addresses 0, 6, the group's and 0xFF; an empty buffer and a full one. -/
theorem witness_buffer :
    (wBusy .nothing (some ⟨true, [0x58, 1]⟩)).Quiet ∧ (wBusy .nothing none).Addressed 64
      ∧ [(0, none), (6, none), (64, none), (0xFF, none), (5, some ⟨true, [0x58, 1]⟩)].map (fun q =>
        seen (.status ⟨q.1, 3⟩) (wBusy .nothing q.2) (fun t =>
          (t.hold, t.link.counters.overruns, t.link.buffer.map Frame.own))) =
        [some (false, 0, none), some (false, 0, none), some (true, 0, some false),
          some (true, 0, some false), some (true, 1, some true)] := by
  decide +kernel

/-- GroupRequestServedAlike's hypotheses: station 5 and group 64, nothing in service. -/
theorem witness_group :
    let s := { w with link := { w.link with group := 64 } }
    s.Quiet ∧ s.link.inService = none ∧ s.link.station = some h5.address ∧ s.Addressed 64
      ∧ s.link.station ≠ some 64
      ∧ seen (.driveSet ⟨64, 1⟩ 1 50) s (fun t => (t.link.inService, t.drive.period)) = some (none, 50) := by
  decide +kernel

/-- ReplyEndReleasesService: what each reply's end brings, and a buffered frame's service. -/
theorem witness_replyEnd :
    [AfterReply.nothing, .baud 48, .restart].map (fun a =>
        seen .replySent (wBusy a none) (fun t =>
          (t.link.inService, t.arrival.baud, t.arrival.restart))) =
        [some (none, none, false), some (none, some 48, false), some (none, none, true)]
      ∧ seen .baudChange { w with arrival := { Arrival.idle with baud := some 48 } } (fun t =>
        (t.link.divisor, t.arrival.baud)) = some (48, none)
      ∧ seen .bufferedFrameService
        { w with link := { w.link with buffer := some ⟨true, encodePayload 3 .status⟩ } } (fun t =>
        (t.hold, t.link.inService.map (fun q => q.reply.code))) = some (false, some 0x58) := by
  decide +kernel

/-- A frame in the buffer and nothing in service. -/
def wBuffered (own : Bool) (payload : Bytes) : State :=
  { w with link := { w.link with group := 64, buffer := some ⟨own, payload⟩ } }

/-- ReplyEndReleasesService: a buffered frame of the station, of the group, and no request of the catalogue. -/
theorem witness_buffered :
    (wBuffered true []).QuietArrival ∧ (wBuffered false []).Addressed 64
      ∧ (wBuffered false []).link.station ≠ some 64 ∧ (Request.fitSet 99).wellFormed = true
      ∧ [(true, encodePayload 3 (.fitSet 99)), (false, encodePayload 3 (.fitSet 99)), (true, [0xFF, 3]),
        (true, [0x0C, 3, 0]), (true, [0xFF]), (false, [0x0C])].map (fun q =>
        seen .bufferedFrameService (wBuffered q.1 q.2) (fun t => (t.hold, replied t, t.fit.timeoutMs))) =
        [some (false, some .adjusted, 100), some (false, none, 100), some (false, some .unknown, 5000),
          some (false, some .length, 5000), some (false, some .unknown, 5000), some (false, none, 5000)] := by
  decide +kernel

/-- 09 R151, R159: the lead byte 0xD2 of a reply as a character on the reply line. -/
theorem test_replyBits :
    seen (.status h5) w (fun t => t.replyBits.map (fun b => b.take 10)) =
      some (some [false, false, true, false, false, true, false, true, true, true]) := by
  decide +kernel

/-- The reply of an answered command as its characters. -/
theorem test_replyFrame :
    seen (.attnMask h5 0xFFFF) w (fun t => t.replyFrame.map (fun f => f.take 8)) =
      some (some [0xD2, 5, 5, 0x59, 9, 0, 0x0F, 0xFF]) := by
  decide +kernel

/-- UnknownRequestAnswered: an unknown code, a known one of the wrong length, and one byte. -/
theorem witness_unknown :
    w.Ready h5 ∧ requestLen 0xFF = none ∧ requestLen 0x0C = some 2
      ∧ statuses w [.unknownRequest 5 [0xFF, 9], .unknownRequest 5 [0x0C, 9, 0],
        .unknownRequest 5 [0xFF], .unknownRequest 5 [0x0C],
        .unknownRequest 5 (0xFF :: List.replicate 249 0)] =
        answers [.unknown, .length, .unknown, .length, .unknown] := by
  decide +kernel

/-- UnknownRequestAnswered and RequestAddressedAndBuffered on frames that are no request of the catalogue:
to all stations, to another station, with a busy service and with a full buffer; and a payload that is a
request. -/
theorem witness_unknownElsewhere :
    w.Quiet ∧ w.Addressed 0xFF ∧ ¬w.Addressed 6 ∧ w.link.station ≠ some 0xFF
      ∧ seen (.unknownRequest 0xFF [0xFF, 1]) w (fun t =>
        decide (t = w.withFreeCount (w.freeCount + 1))) = some true
      ∧ [Instr.unknownRequest 6 [0xFF, 1], .unknownRequest 5 [0x0C, 9]].map (fun i =>
        seen i w (fun t => decide (t = w))) = [some true, some true]
      ∧ [none, some (⟨true, [0x58, 1]⟩ : Frame)].map (fun b =>
        seen (.unknownRequest 0xFF [0xFF, 1]) (wBusy .nothing b) (fun t =>
          (t.link.counters.overruns, t.link.buffer.map Frame.payload))) =
        [some (0, some [0xFF, 1]), some (1, some [0x58, 1])] := by
  decide +kernel

/-! ### Requests of the link and the status unit -/

/-- LinkRequestsServed: rates and groups at their bounds, the counters read, a group's rate change. -/
theorem witness_linkRequests :
    roundDiv 48000000 115200 = 417 ∧ roundDiv 48000000 3000000 = 16 ∧ roundDiv 48000000 48 = 1000000
      ∧ statuses w [.linkSet h5 115199 0, .linkSet h5 115200 0, .linkSet h5 3000000 254,
        .linkSet h5 3000001 0, .linkSet h5 115200 255, .linkSet h5 115200 5, .restart h5, .linkCounts h5] =
        answers [.range, .ok, .ok, .range, .range, .range, .ok, .ok]
      ∧ seen (.linkCounts h5) (wRx .hunt 0) replyData =
        some (some [0, 0, 0, 0, 0, 0, 0, 0, 0, 0, 1, 5, 0, 1, 161, 0, 1, 193, 164])
      ∧ seen (.linkSet ⟨0xFF, 1⟩ 1000000 64) w (fun t => (t.link.divisor, t.link.group)) =
        some (48, 64)
      ∧ seen (.restart ⟨0xFF, 1⟩) w (fun t => t.arrival.restart) = some true := by
  decide +kernel

/-- StatusUnitServed: the second STATUS of 10 section 10.6, and a mask that drops the last event. -/
theorem witness_status :
    let s := { w with status := ⟨(Event.linkFault.single ||| Event.rerefEnd.single), 0x203⟩ }
    s.attn = true
      ∧ seen (.attnMask h5 0xF003) s (fun t => (t.attn, t.status.mask)) = some (false, 3)
      ∧ seen (.status h5) s (fun t => (t.attn, t.status.sticky)) = some (false, 0)
      ∧ seen (.status h5) s replyData = some (some [6, 0, 2, 3, 0, 0, 0, 0, 0x95, 2, 0xF9, 0x2D]) := by
  decide +kernel

/-! ### Requests of the line table (06 section 6.8) -/

/-- The table of 06 section 6.8 once lines 0 and 2 stand. -/
def wTable : State :=
  { w with
    table :=
      [{ lineAt 0 0 .armed with halfWidth := 50000000, targetFwd := 3, targetRev := 3, datum := true },
        { lineAt 2 2000000000 .armed with halfWidth := 50000000, cls := 0 }] }

theorem witness_ordered : wTable.TableOrdered ∧ wStates.TableOrdered := by
  unfold State.TableOrdered
  decide +kernel

/-- PlaceServed: the replies of 06 section 6.8, a RANGE, and a full table. -/
theorem witness_place :
    wTable.Ready h5
      ∧ statuses wTable [.place h5 { placeFields with nominal := 2500000000 },
        .place h5 { placeFields with halfWidth := 1000000000 }, .place h5 placeFields,
        .place h5 { placeFields with line := 2 },
        .place h5 ⟨3, 3000000000, 950000000, 1, 0, 0, 0, 0⟩, .place h5 ⟨3, 3000000000, 50000000, 1, 0, 0, 0, 2⟩,
        .place h5 { placeFields with cls := 8 }, .place h5 { placeFields with initial := 1 },
        .place h5 { placeFields with line := 1000001 }, .place h5 { placeFields with halfWidth := 99999 }] =
        answers [.order, .overlap, .ok, .exists_, .overlap, .ok, .range, .range, .range, .range]
      ∧ seen (.place h5 placeFields) wTable (fun t => t.table.map LineRecord.line) = some [0, 1, 2]
      ∧ seen (.place h5 { placeFields with initial := 2 }) { wTable with pass := wPass.pass } (fun t =>
        t.table.map LineRecord.state) = some [.armed, .primed, .armed] := by
  decide +kernel

/-- The record of a full table at a place. -/
def fullRecord (i : Nat) : LineRecord := { lineAt i (200000 * i) .dormant with halfWidth := 50000 }

/-- PlaceServed's TABLE_FULL at 2048 records in order. -/
theorem witness_tableFull :
    let s := { w with table := (List.range 2048).map fullRecord }
    s.table.length = 2048
      ∧ seen (.place h5 { placeFields with line := -1 }) s replied = some (some .tableFull) := by
  decide +kernel

/-- AmendServed: RANGE, NOT_FOUND, STATE, ORDER, OVERLAP, a window moved in TAKEN, and a target re-tested. -/
theorem witness_amend :
    wStates.Ready h5
      ∧ statuses wStates [.amend h5 ⟨1, none, some 99999, none, none, none, none⟩,
        .amend h5 ⟨9, none, none, none, none, none, none⟩,
        .amend h5 ⟨6, none, none, none, none, none, none⟩,
        .amend h5 ⟨4, some 3000000000, none, none, none, none, none⟩,
        .amend h5 ⟨4, none, some 980000000, none, none, none, none⟩,
        .amend h5 ⟨4, none, some 979999999, none, none, none, none⟩,
        .amend h5 ⟨4, none, none, none, none, none, none⟩] =
        answers [.range, .notFound, .state, .order, .overlap, .ok, .ok]
      ∧ seen (.amend h5 ⟨4, none, some 979999999, some 7, none, none, some 1⟩) wStates (fun t =>
        t.table.filterMap (fun r => if r.line = 4 then some (r.state, r.pending, r.cls, r.datum) else none))
        = some [(.primed, none, 7, true)]
      ∧ seen (.amend h5 ⟨1, none, none, none, some 0, some 1, none⟩)
        { wStates with table := [{ lineAt 1 0 .dormant with rev := some ⟨1, 1, 1, 1, 1, 0, 0, 0, 1⟩ }] }
        (fun t => t.table.map LineRecord.complete) = some [true] := by
  decide +kernel

/-- What a request leaves of each record of `wStates`: its reply's status code, and the record's state code
after, 9 where the record is gone. -/
def effects (i : Int → Instr) : List (Nat × Nat) :=
  [1, 2, 3, 4, 5, 6].map (fun l =>
    match exec (i l) wStates with
    | .next t =>
      (((replied t).map Status.code).getD 0, ((findLine t.table l).map (fun r => r.state.code)).getD 9)
    | .fault _ => (0, 0)
    | .refused _ => (0, 0))

/-- RecordRequestsServed: the table of 06 section 6.4, in DORMANT, PRIMED, ARMED, TAKEN, MISSED and RETIRED.
24 is the status STATE. -/
theorem witness_records :
    [Instr.arm h5, .disarm h5, .retire h5, .drop h5, .clear h5].map effects =
      [[(0, 1), (0, 1), (0, 2), (0, 3), (0, 4), (24, 5)], [(0, 0), (0, 0), (0, 0), (0, 0), (0, 0), (24, 5)],
        [(0, 5), (0, 5), (0, 5), (0, 5), (0, 5), (0, 5)],
        [(0, 9), (0, 9), (24, 2), (24, 3), (24, 4), (0, 9)],
        [(0, 0), (0, 1), (0, 2), (24, 3), (24, 4), (24, 5)]] := by
  decide +kernel

/-- RecordRequestsServed: an absent record, and ARM of a FULL one. -/
theorem witness_recordsAbsent :
    statuses wStates [.arm h5 9, .disarm h5 9, .retire h5 9, .drop h5 9, .clear h5 9] =
        answers (List.replicate 5 .notFound)
      ∧ seen (.arm h5 1) { w with table := [{ lineAt 1 0 .dormant with full := true }] } replied =
        some (some .state) := by
  decide +kernel

/-- ClassOpApplies: selected, applied and skipped of each operation, and of a mask that selects nothing. -/
theorem witness_classOps :
    [.classOpArm h5 2, .classOpDisarm h5 2, .classOpRetire h5 2, .classOpDrop h5 2, .classOpClear h5 2,
      .classOpDrop h5 0xFD].map (fun i => seen i wStates replyData) =
    [some (some [0, 6, 0, 1, 0, 5]), some (some [0, 6, 0, 4, 0, 2]), some (some [0, 6, 0, 5, 0, 1]),
      some (some [0, 6, 0, 3, 0, 3]), some (some [0, 6, 0, 0, 0, 6]), some (some [0, 0, 0, 0, 0, 0])] := by
  decide +kernel

/-- ReadingRequestsChangeNothing: the replies' statuses and lengths. -/
theorem witness_readings :
    [.read h5 4, .read h5 9, .find h5 0, .stepTable h5 ⟨0, 0, 2⟩, .tableSummary h5, .readChannel h5 3,
      .readChannel h5 4, .fitResult h5 0, .fitResult h5 4, .readAir h5, .readPass h5, .rerefResult h5].map
      (fun i => seen i wStates (fun t => (replied t, (replyData t).map List.length))) =
    [some (some .ok, some 186), some (some .notFound, some 0), some (some .ok, some 48),
      some (some .ok, some 28), some (some .ok, some 48), some (some .ok, some 64),
      some (some .range, some 0), some (some .ok, some 84), some (some .range, some 0),
      some (some .ok, some 104), some (some .ok, some 181), some (some .ok, some 141)] := by
  decide +kernel

/-- LookupsNameTheRecord: a READ's first fields, FIND at the two edges of a window, and walks. -/
theorem witness_lookups :
    seen (.read h5 4) wStates (fun t => (replyData t).map (fun d => d.take 19)) =
        some (some [0, 0, 0, 4, 0, 0, 0xEE, 0x6B, 0x28, 0, 0x01, 0x31, 0x2D, 0, 1, 1, 1, 0, 3])
      ∧ [3979999999, 3980000000, 4020000000, 4020000001].map (fun x =>
        seen (.find h5 x) wStates (fun t => (replyData t).map (fun d => d.take 5))) =
        [some (some [0, 0, 0, 0, 0]), some (some [1, 0, 0, 0, 4]), some (some [1, 0, 0, 0, 4]),
          some (some [0, 0, 0, 0, 0])]
      ∧ [(0, 0, 2), (1, 0, 2), (2, 3, 2), (3, 3, 2), (0, 0, 1)].map (fun q =>
        seen (.stepTable h5 ⟨q.1, q.2.1, q.2.2⟩) wStates (fun t => (replyData t).map (fun d => d.take 4))) =
        [some (some [0, 0, 0, 1]), some (some [0, 0, 0, 6]), some (some [0, 0, 0, 4]),
          some (some [0, 0, 0, 2]), some (some [])]
      ∧ statuses wStates [.stepTable h5 ⟨4, 0, 2⟩, .stepTable h5 ⟨2, 1000001, 2⟩,
        .stepTable h5 ⟨3, 1000000, 2⟩, .stepTable h5 ⟨1, 1000001, 2⟩, .stepTable h5 ⟨2, 6, 2⟩] =
        answers [.range, .range, .ok, .ok, .notFound] := by
  decide +kernel

/-- LookupsNameTheRecord: FIND between two windows, below all of them and in an empty table; a half block
and a pending block. -/
theorem witness_findOutside :
    [(3500000000, wStates.table), (1, wStates.table), (5, [])].map (fun q =>
        seen (.find h5 q.1) { wStates with table := q.2 } (fun t => (replyData t).map (fun d => d.drop 25))) =
        [some (some [0, 1, 0, 0, 0, 3, 0, 0, 0xB2, 0xD0, 0x5E, 0, 1, 0, 0, 0, 4, 0, 0, 0xEE, 0x6B, 0x28, 0]),
          some (some (List.replicate 12 0 ++ [1, 0, 0, 0, 1, 0, 0, 0x3B, 0x9A, 0xCA, 0])),
          some (some (List.replicate 23 0))]
      ∧ (halfBlock 1000000000 (some ⟨2, 2000000255, 1000000120, 1000000135, 1000000135, 2, 6200, 0, 21⟩)).drop 44 =
        [0, 0, 0x3B, 0x9A, 0xCA, 0x80, 0, 0, 0, 0, 0, 0x80, 0, 0, 0, 0, 0x0C, 0x1C, 0, 0, 0, 0, 0, 15]
      ∧ pendingBlock (some (part 999999880 none true .rev 18 false)) =
        [0, 0, 0x3B, 0x9A, 0xC9, 0x88, 0, 0, 0, 0, 0, 0, 18, 2, 0, 0, 0, 18, 0] := by
  decide +kernel

/-- ReadingRequestsChangeNothing: FIT_RESULT's place of a working, a waiting, a pending and no request, and
the heads of the other replies. -/
theorem witness_readingData :
    ([0, 2, 1].map (fun c => seen (.fitResult h5 c) (wFit 1791 |>.withArrival .idle) (fun t =>
        (replyData t).map (fun d => (d.drop 62).take 18))) =
        [some (some [1, 1, 0, 0, 3, 0x84, 0, 0, 3, 0x7A, 0, 0, 0, 0, 0x40, 0x10, 0, 0]),
          some (some (2 :: List.replicate 15 0 ++ [1, 1])), some (some (List.replicate 18 0))])
      ∧ seen (.fitResult h5 0) (wReset (tracking 1) |>.withArrival .idle) (fun t =>
        (replyData t).map (fun d => (d.drop 62).take 1)) = some (some [3])
      ∧ seen (.tableSummary h5) wStates (fun t => (replyData t).map (fun d => d.take 16)) =
        some (some [0, 6, 7, 0xFA, 0, 1, 0, 1, 0, 1, 0, 1, 0, 1, 0, 1])
      ∧ seen (.readChannel h5 3) w (fun t => (replyData t).map (fun d => d.take 16)) =
        some (some [0, 0, 0, 0, 0x95, 2, 0xF9, 0x2D, 1, 3, 0, 0, 0, 0x3D, 9, 0x41])
      ∧ seen (.readAir h5) w (fun t => (replyData t).map (fun d => d.take 12)) =
        some (some [0, 4, 0x1E, 0xB0, 0, 0, 0x30, 0x70, 0, 60, 0, 200])
      ∧ seen (.readPass h5) wStates (fun t => (replyData t).map (fun d => (d.take 20, d.drop 162))) =
        some (some ([0, 0, 0, 0, 0, 3, 0x20, 0, 0, 0, 0, 0, 160, 2, 0x71, 1, 1, 0, 0, 0],
          [0, 0, 9, 0x35, 0xB6, 0x78, 0, 0, 4, 0xD4, 0, 0, 0, 0x2F, 0x23, 0x0E, 1, 1, 0]))
      ∧ seen (.rerefResult h5) (wWait .tracking 0) (fun t => (replyData t).map (fun d => d.take 13)) =
        some (some [1, 1, 0, 0, 0, 0, 1, 0, 0, 9, 0x35, 0x7B, 0xA0]) := by
  decide +kernel

/-! ### Requests of the channels and the fit unit -/

def chanFields : ChannelFields := ⟨0, 1, 1, 1, -2047, 64, 1000, 3⟩

/-- ChannelRequestsServed: the range tests at their bounds, and a coast limit clamped. -/
theorem witness_channelSet :
    w.Ready h5
      ∧ statuses w [.channelSet h5 chanFields, .channelSet h5 { chanFields with coastLimit := 1001 },
        .channelSet h5 { chanFields with coastLimit := 0 }, .channelSet h5 { chanFields with floor := 63 },
        .channelSet h5 { chanFields with floor := 1801 }, .channelSet h5 { chanFields with synthStep := 2048 },
        .channelSet h5 { chanFields with channel := 4 }, .channelSet h5 { chanFields with sense := 2 }] =
        answers [.ok, .adjusted, .adjusted, .range, .range, .range, .range, .range]
      ∧ [w, State.withChannels w (.all ⟨.initial, .initial⟩)].map (fun s =>
        seen (.channelSet h5 chanFields) s (fun t =>
          ((t.chan .xl).counter.state, (t.chan .xl).counter.epoch, (t.chan .xl).front.source))) =
        [some (.tracking, 0, .synthetic), some (.dark, 1, .synthetic)] := by
  decide +kernel

/-- ChannelRequestsServed: disabling XL ends the pass, the wait and the channel's fit; disabling Y does
not end the pass. -/
theorem witness_disable :
    [wStates, { wFeed 5 with table := [], pass := PassUnit.initial, reref := (wWait .tracking 0).reref }].map
        (fun s => seen (.channelSet h5 { chanFields with enable := 0 }) s (fun t =>
          (t.pass.last.map PassSummary.reason, t.reref.result.map RerefResult.outcome,
            (t.fit.result.get .xl).map FitResult.outcome))) =
        [some (some .disabled, none, none), some (none, some .failedSignal, some .abandonedDisabled)]
      ∧ seen (.channelSet h5 { chanFields with channel := 2, enable := 0 }) wStates (fun t =>
        ((t.chan .y).counter.state, t.pass.context.isSome)) = some (.off, true) := by
  decide +kernel

/-- ChannelRequestsServed: PRESET at the limits of a count, in each state, during a pass, and in a wait. -/
theorem witness_preset :
    statuses w [.preset h5 0 140737488355327, .preset h5 0 (-140737488355327),
        .preset h5 0 140737488355328, .preset h5 4 0] = answers [.ok, .ok, .range, .range]
      ∧ [ChannelState.off, .dark, .coasting, .unreferenced].map (fun st =>
        seen (.preset h5 0 1) (wWait st 3) (fun t =>
          (replied t, (t.chan .xl).counter.state, t.reref.wait.map Wait.validFrom))) =
        [some (some .state, .off, some 2200000047), some (some .state, .dark, some 2200000047),
          some (some .state, .coasting, some 2200000047), some (some .ok, .tracking, some 2500000046)]
      ∧ statuses wPass [.preset h5 1 0, .preset h5 2 0] = answers [.inPass, .ok] := by
  decide +kernel

/-- FitRequestsServed: the tests of FIT, the slot and the queue, and RESET in each case. -/
theorem witness_fitRequests :
    statuses (wFit 1791 |>.withArrival .idle) [.fit h5 4 0, .fit h5 0 3, .fit h5 0 0, .fit h5 1 1,
        .fitReset h5 4, .fitReset h5 0] =
        answers [.range, .range, .busy, .accepted, .range, .accepted]
      ∧ seen (.fit h5 0 0) (wWait .coasting 1) replied = some (some .state)
      ∧ [wReset (tracking 1) |>.withArrival .idle, w, wWait .coasting 1].map (fun s =>
        seen (.fitReset h5 0) s (fun t =>
          (replied t, t.fit.pendingReset.get .xl, (t.fit.result.get .xl).map FitResult.outcome))) =
        [some (some .busy, true, none), some (some .accepted, true, none),
          some (some .accepted, false, some .applied)]
      ∧ seen (.fitReset h5 0) (wFit 1791 |>.withArrival .idle) (fun t =>
        (t.fit.working, t.fit.pendingReset.get .xl, (t.fit.result.get .xl).map FitResult.outcome)) =
        some (none, true, some .abandonedReset)
      ∧ seen (.fit h5 0 1) w (fun t => t.fit.working) = some (some ⟨.xl, .short, .host⟩) := by
  decide +kernel

/-- FitRequestsServed: a RESET of a waiting request, the others keeping their order. -/
theorem witness_fitResetWaiting :
    let s := { w with
      fit :=
        { FitUnit.initial with
          working := some ⟨.y, .long, .host⟩
          queue := [⟨.t, .long, .host⟩, ⟨.xl, .short, .trim⟩, ⟨.xr, .long, .host⟩] } }
    s.Ready h5
      ∧ [s, s.setCounter .xl (coasting 5 9 0 1 50)].map (fun s => seen (.fitReset h5 0) s (fun t =>
        (t.fit.queue.map FitRequest.channel, t.fit.pendingReset.get .xl,
          ((t.fit.result.get .xl).map (fun r => [r.kind.code, r.outcome.code])).toList))) =
        [some ([.t, .xr], true, [[1, 6]]), some ([.t, .xr], false, [[2, 0]])] := by
  decide +kernel

/-! ### Settings, passes and re-references -/

/-- SettingsServed: each setting at its bounds and beyond. -/
theorem witness_settings :
    statuses w [.fitSet h5 99, .fitSet h5 100, .fitSet h5 60001, .airSet h5 (-1) 1 1,
        .airSet h5 600000 3600 10000, .airSet h5 0 0 1, .airSet h5 600001 1 1, .trackerSet h5 0,
        .trackerSet h5 999999, .trackerSet h5 2000000000, .geometrySet h5 ⟨999999999, 0, 0, 0, 0, 10000⟩,
        .geometrySet h5 ⟨1000000000, 2000000, 0, 0, 65536, 1000000⟩, .lineSet h5 ⟨2, 0, 0, 200⟩,
        .lineSet h5 ⟨1, 1, 6301, 200⟩, .lineSet h5 ⟨0, 0, 6300, 100000⟩, .passSet h5 ⟨2, 100, 10, 1⟩,
        .passSet h5 ⟨1, 100, 101, 1⟩, .passSet h5 ⟨0, 1000000, 1000000, 65535⟩, .driveSet h5 2 50,
        .driveSet h5 1 49, .driveSet h5 0 100000] =
        answers [.adjusted, .ok, .adjusted, .range, .ok, .adjusted, .range, .ok, .range, .ok, .range, .ok,
          .range, .adjusted, .ok, .range, .adjusted, .ok, .range, .adjusted, .ok]
      ∧ seen (.geometrySet h5 ⟨1000000000, 0, 0, 0, 0, 10000⟩) wPass replied = some (some .inPass)
      ∧ seen (.lineSet h5 ⟨0, 0, 7000, 100000⟩) (wFlight .armed none none) (fun t =>
        (t.line.latency, t.line.enable)) = some (6300, false) := by
  decide +kernel

/-- `w` in HOST mode. -/
def wHost : State := { w with pass := { PassUnit.initial with mode := .host } }

/-- PassRequestsServed: the tests of PASS_OPEN in their order, and the ends of a pass. -/
theorem witness_passRequests :
    [w, wHost, { wHost with pass := { wPass.pass with mode := .host } },
        { wHost with reref := (wWait .tracking 0).reref }].map (fun s =>
        statuses s [.passOpen h5 0, .passOpen h5 1]) =
        [answers [.range, .state], answers [.range, .ok], answers [.range, .inPass],
          answers [.range, .state]]
      ∧ statuses w [.passClose h5, .passAbort h5] = answers [.state, .state]
      ∧ seen (.passOpen h5 2) wHost (fun t => t.pass.context.map (fun c => (c.direction, c.xStart))) =
        some (some (.rev, 154515064))
      ∧ seen (.passClose h5) wStates lastPass = some [2, 1, 1]
      ∧ seen (.passAbort h5) wStates lastPass = some [5, 0, 0] := by
  decide +kernel

/-- The part of 08 section 8.5 before its REREF. -/
def wReref (half : Option Half) (datum : Bool) : State :=
  { w with table := [{ lineAt 0 154500000 .retired with datum := datum, fwd := half }] }

/-- The FWD half of 08 section 8.5. -/
def half5 : Half := ⟨5, 772500002, 154500000, 154500001, 154500000, 0, 0, 0, 1⟩

/-- RerefRequestsServed: the tests in their order at their bounds, the targets, and a cancel. -/
theorem witness_rerefRequests :
    statuses (wReref (some half5) true) [.reref h5 1000001 1, .reref h5 0 0, .reref h5 0 601,
        .reref h5 1 600, .reref h5 0 600] = answers [.range, .range, .range, .notFound, .accepted]
      ∧ [wReref none true, wReref (some half5) false, wPass,
        { wReref (some half5) true with channels := .all ⟨.initial, .initial⟩ }, wWait .tracking 1].map
        (fun s => seen (.reref h5 0 600) s replied) =
        [some (some .state), some (some .state), some (some .inPass), some (some .state),
          some (some .state)]
      ∧ seen (.reref h5 0 600) (wReref (some half5) true) (fun t =>
        t.reref.wait.map (fun w => (w.targetFwd, w.accepting, w.validFrom))) =
        some (some (some 154500000, 2500000045, 2500000046))
      ∧ seen (.rerefCancel h5) (wWait .tracking 1) (fun t => t.reref.result.map RerefResult.outcome) =
        some (some .failedCancelled)
      ∧ statuses w [.rerefCancel h5] = answers [.state] := by
  decide +kernel

/-! ### Invariants and steps -/

/-- A state that meets the hypotheses of TableStaysSound and PassStaysBounded with an open pass and a TAKEN
record: the one just after a take. -/
def wTaken : State :=
  { wStates with pass := { wStates.pass with context := some { pass42 with counters := ⟨1, 1, 0, 0, 0, 0, 0⟩ } } }

theorem witness_tableInvariants : wTaken.TableOrdered ∧ wTaken.HalvesSound ∧ wTaken.PendingSound := by
  refine ⟨by unfold State.TableOrdered; decide +kernel, ?_, ?_⟩
  · have h : ∀ r ∈ wTaken.table, r.fwd = none ∧ r.rev = none := by decide +kernel
    intro r hr
    exact ⟨fun _ e => by simp [(h r hr).1] at e, fun _ e => by simp [(h r hr).2] at e⟩
  · unfold State.PendingSound
    decide +kernel

theorem witness_passInvariants : wTaken.PassReferenced ∧ wTaken.WaitHasSignal ∧ wTaken.TakenBounded := by
  refine ⟨fun _ => by decide +kernel, fun h => absurd rfl h, ?_⟩
  intro c hc
  cases hc
  decide +kernel

theorem witness_channelInvariants : w.CountersInRange ∧ w.EllipsesInRange := by
  refine ⟨?_, ?_, fun _ h => (nomatch h), ?_⟩
  · intro ch
    cases ch <;> decide +kernel
  · intro ch
    cases ch <;> decide +kernel
  · intro ch m h
    cases ch <;> cases h

theorem witness_unitInvariants :
    (wFit 1791).FitUnitSound ∧ w.AgeSound ∧ wLine.WindowSound := by
  refine ⟨?_, ?_, ?_, ?_, ?_⟩
  · unfold State.FitUnitSound FitUnit.claims
    decide +kernel
  · unfold State.AgeSound
    decide +kernel
  · decide +kernel
  · exact ⟨rfl, trivial⟩
  · intro e h
    cases h
    rfl

/-- StepTakesFront: the front command first, the rest kept. -/
theorem test_step :
    (match step ({ w with pending := [.attnMask h5 1, .ageTick] } : State) with
      | .next t => some (t.status.mask, t.pending)
      | .fault _ => none
      | .refused _ => none) = some (1, [.ageTick]) := by
  decide +kernel

end Sys2Proof.Tests
end

/-! ### Rounded quotients (00 R1, 03 R47 step 6) -/

section
namespace Sys2Proof.Machine

/-! #### The exact square root -/

/-- The bit by bit search keeps its bracket: with the root in `r .. r + 2 ^ b - 1` it ends at the root. -/
theorem sqrtBits_eq_sqrt (n b r : Nat) (hlow : r * r ≤ n) (hhigh : n < (r + 2 ^ b) * (r + 2 ^ b)) :
    sqrtBits n b r = Nat.sqrt n := by
  induction b generalizing r with
  | zero => exact Nat.eq_sqrt.mpr ⟨hlow, hhigh⟩
  | succ b ih =>
    rw [sqrtBits]
    split
    next hbit =>
      have hsum : r + 2 ^ b + 2 ^ b = r + 2 ^ (b + 1) := by rw [pow_succ]; omega
      exact ih _ hbit (by rwa [hsum])
    next hbit => exact ih _ hlow (Nat.lt_of_not_le hbit)

/-- 01 R8: `isqrt` is the library's square root, rounded down. -/
theorem isqrt_eq_sqrt (n : Nat) : isqrt n = Nat.sqrt n := by
  refine sqrtBits_eq_sqrt n _ 0 (Nat.zero_le n) ?_
  calc n < 2 ^ (n.log2 + 1) := Nat.lt_log2_self
    _ ≤ 2 ^ ((n.log2 / 2 + 1) + (n.log2 / 2 + 1)) := Nat.pow_le_pow_right two_pos (by omega)
    _ = (0 + 2 ^ (n.log2 / 2 + 1)) * (0 + 2 ^ (n.log2 / 2 + 1)) := by rw [pow_add, zero_add]

/-- A natural number is at most the root that `roundDivSqrt` halves exactly when it is at most `2|n| / √d`. -/
theorem le_isqrt_quotient_iff (m : Nat) (n : Int) {d : Int} (hd : 0 < d) :
    m ≤ isqrt (4 * n * n / d).toNat ↔ (m : Int) ^ 2 * d ≤ 4 * n ^ 2 := by
  have hquot : 0 ≤ 4 * n * n / d := Int.ediv_nonneg (by nlinarith [mul_self_nonneg n]) hd.le
  calc m ≤ isqrt (4 * n * n / d).toNat
      ↔ m ^ 2 ≤ (4 * n * n / d).toNat := by rw [isqrt_eq_sqrt, Nat.le_sqrt']
    _ ↔ (m : Int) ^ 2 ≤ 4 * n * n / d := by rw [Int.le_toNat hquot, Nat.cast_pow]
    _ ↔ (m : Int) ^ 2 * d ≤ 4 * n ^ 2 := by rw [Int.le_ediv_iff_mul_le hd, mul_assoc, ← sq]

/-! #### `roundDiv` -/

theorem roundDiv_neg (n : Int) {d : Int} (hd : 0 < d) : roundDiv (-n) d = -roundDiv n d := by
  have hzero : d / (2 * d) = 0 := Int.ediv_eq_zero_of_lt hd.le (by omega)
  rcases lt_trichotomy n 0 with hn | rfl | hn
  · rw [roundDiv, roundDiv, if_pos (by omega), if_neg (by omega), neg_neg]
  · simp [roundDiv, hzero]
  · rw [roundDiv, roundDiv, if_neg (by omega), if_pos hn.le, neg_neg]

/-- For a numerator that is not negative, the multiple of `d` lies in the half-open interval
`n - d/2 .. n + d/2` that takes a half upward. -/
theorem roundDiv_mul_bounds {n d : Int} (hn : 0 ≤ n) (hd : 0 < d) :
    2 * (roundDiv n d * d) ≤ 2 * n + d ∧ 2 * n < 2 * (roundDiv n d * d) + d := by
  rw [roundDiv, if_pos hn]
  have hlow := Int.ediv_mul_le (2 * n + d) (show 2 * d ≠ 0 by omega)
  have hhigh := Int.lt_ediv_add_one_mul_self (2 * n + d) (show 0 < 2 * d by omega)
  constructor <;> linarith

theorem roundDiv_nearest (n : Int) {d : Int} (hd : 0 < d) :
    2 * ((n - roundDiv n d * d).natAbs : Int) ≤ d
      ∧ (2 * ((n - roundDiv n d * d).natAbs : Int) = d → n.natAbs < (roundDiv n d * d).natAbs) := by
  rcases le_total 0 n with hn | hn
  · have ⟨hlow, hhigh⟩ := roundDiv_mul_bounds hn hd
    omega
  · have ⟨hlow, hhigh⟩ := roundDiv_mul_bounds (neg_nonneg.mpr hn) hd
    rw [roundDiv_neg n hd, neg_mul] at hlow hhigh
    omega

/-! #### `roundDivSqrt` -/

theorem roundDivSqrt_of_nonneg {n : Int} (hn : 0 ≤ n) (d : Int) :
    roundDivSqrt n d = ((isqrt (4 * n * n / d).toNat + 1) / 2 : Nat) :=
  if_pos hn

theorem roundDivSqrt_neg (n d : Int) : roundDivSqrt (-n) d = -roundDivSqrt n d := by
  have hsq : 4 * -n * -n = 4 * n * n := by ring
  rcases lt_trichotomy n 0 with hn | rfl | hn
  · simp only [roundDivSqrt, hsq]
    rw [if_pos (by omega), if_neg (by omega), neg_neg]
  · simp [roundDivSqrt, isqrt_eq_sqrt]
  · simp only [roundDivSqrt, hsq]
    rw [if_neg (by omega), if_pos hn.le]

/-- The rounded value `m` lies within a half of `n / √d`: `2m - 1 ≤ 2n / √d < 2m + 1`, squared. -/
theorem roundDivSqrt_nearest {n d : Int} (hn : 0 ≤ n) (hd : 0 < d) :
    0 ≤ roundDivSqrt n d
      ∧ (roundDivSqrt n d = 0 ∨ (2 * roundDivSqrt n d - 1) ^ 2 * d ≤ 4 * n ^ 2)
      ∧ 4 * n ^ 2 < (2 * roundDivSqrt n d + 1) ^ 2 * d := by
  have hroot (k : Nat) := le_isqrt_quotient_iff k n hd
  rw [roundDivSqrt_of_nonneg hn]
  generalize isqrt (4 * n * n / d).toNat = root at hroot ⊢
  obtain ⟨m, hm⟩ : ∃ m, m = (root + 1) / 2 := ⟨_, rfl⟩
  rw [← hm]
  refine ⟨Int.natCast_nonneg m, ?_, ?_⟩
  · rcases Nat.eq_zero_or_pos m with hzero | hpos
    · exact .inl (by rw [hzero, Nat.cast_zero])
    · have hodd : ((2 * m - 1 : Nat) : Int) = 2 * m - 1 := by omega
      exact .inr (hodd ▸ (hroot (2 * m - 1)).mp (by omega))
  · have habove := mt (hroot (2 * m + 1)).mpr (by omega)
    push_cast at habove
    exact not_le.mp habove

/-- Settles O3: each quotient from its bounds for a numerator that is not negative and its oddness. -/
theorem roundedQuotientsAreNearest : Obligations.RoundedQuotientsAreNearest :=
  ⟨fun n _ hd => roundDiv_nearest n hd,
    fun n d hd => ⟨fun hn => roundDivSqrt_nearest hn hd, roundDivSqrt_neg n d⟩⟩

end Sys2Proof.Machine
end

/-! ### Ranges of the sample path (01 R3 to R11, 02 R17 to R38) -/

section
namespace Sys2Proof.Machine

/-! #### Numbers -/

theorem clamp_mem {lo hi : Int} (h : lo ≤ hi) (x : Int) : lo ≤ clamp lo hi x ∧ clamp lo hi x ≤ hi := by
  unfold clamp
  omega

/-- 02 R17: a clamped count lies within its limits. -/
theorem clampCount_mem (p : Int) :
    -140737488355327 ≤ clampCount p ∧ clampCount p ≤ 140737488355327 :=
  clamp_mem (by decide) p

theorem countInRange_iff {p : Int} :
    countInRange p = true ↔ -140737488355327 ≤ p ∧ p ≤ 140737488355327 := by
  rw [countInRange, Bool.and_eq_true, decide_eq_true_iff, decide_eq_true_iff]
  rfl

theorem modPhase_le (i : Int) : modPhase i ≤ 1023 := by
  unfold modPhase
  omega

theorem phaseOf_le (x y : Int) : phaseOf x y ≤ 1023 := by
  unfold phaseOf
  split <;> omega

theorem applySense_le {φ : Nat} (h : φ ≤ 1023) (sense : Sense) : applySense sense φ ≤ 1023 := by
  cases sense with
  | normal => exact h
  | inverted => exact Nat.le_of_lt_succ (Nat.mod_lt _ (by decide))

theorem pairPhase_le (e : EllipseSet) (sense : Sense) (c s : Int) : pairPhase e sense c s ≤ 1023 :=
  applySense_le (phaseOf_le _ _) sense

/-! #### Working pairs are codes -/

theorem quarterCosine_getD_le (n : Nat) : quarterCosine.getD n 0 ≤ 1600 := by
  have hall : ∀ v ∈ quarterCosine, v ≤ 1600 := by decide +kernel
  rw [List.getD_eq_getElem?_getD]
  cases hn : quarterCosine[n]? with
  | none => exact Nat.zero_le _
  | some v => exact hall v (List.mem_of_getElem? hn)

theorem synthCos_mem (a : Nat) : -1600 ≤ synthCos a ∧ synthCos a ≤ 1600 := by
  have hq := quarterCosine_getD_le
  unfold synthCos
  split
  next => have := hq a; omega
  next =>
    split
    next => have := hq (512 - a); omega
    next =>
      split
      next => have := hq (a - 512); omega
      next => have := hq (1024 - a); omega

theorem isCode_toInt (v : BitVec 12) : isCode v.toInt := by
  have hlow := v.le_toInt
  have hhigh := v.toInt_lt
  constructor <;> omega

theorem FrontEnd.workingPair_isCode (fe : FrontEnd) (p : Pair) :
    isCode (fe.workingPair p).1 ∧ isCode (fe.workingPair p).2 := by
  unfold FrontEnd.workingPair
  split
  next => exact ⟨isCode_toInt _, isCode_toInt _⟩
  next =>
    have hc := synthCos_mem fe.synthAngle
    have hs := synthCos_mem ((fe.synthAngle + 768) % 1024)
    simp only [isCode, synthSin]
    omega

/-! #### Counters -/

namespace Counter

variable {c : Counter}

/-- 02 R18: a step that passes keeps the count and the step in their ranges. -/
theorem unwrap_passes {φ : Nat} {p step : Int} (h : c.unwrap φ = .passes p step) :
    (-140737488355327 ≤ p ∧ p ≤ 140737488355327) ∧ step.natAbs ≤ 2047 := by
  unfold unwrap at h
  dsimp only at h
  split at h
  · cases h
  · split at h
    · cases h
    · split at h
      · next hstep hcount =>
        cases h
        exact ⟨countInRange_iff.mp hcount, Nat.le_of_not_lt hstep⟩
      · cases h

/-- 02 R18: a slip leaves the count, or clamps the one it would have formed. -/
theorem unwrap_slip {φ : Nat} {p : Int} (hc : c.inRange) (h : c.unwrap φ = .slip p) :
    -140737488355327 ≤ p ∧ p ≤ 140737488355327 := by
  unfold unwrap at h
  dsimp only at h
  split at h
  · cases h
    exact hc.1
  · split at h
    · cases h
      exact hc.1
    · split at h
      · cases h
      · cases h
        exact clampCount_mem _

theorem inRange_accept (hc : c.inRange) (st : ChannelState) {φ : Nat} (hφ : φ ≤ 1023) {p step : Int}
    (h : c.unwrap φ = .passes p step) : (c.accept st φ p step).counter.inRange := by
  have ⟨hp, hstep⟩ := unwrap_passes h
  obtain ⟨-, -, -, hrest⟩ := hc
  exact ⟨hp, hφ, hstep, hrest⟩

theorem inRange_slipped (hc : c.inRange) {φ : Nat} (hφ : φ ≤ 1023) {p : Int}
    (hp : -140737488355327 ≤ p ∧ p ≤ 140737488355327) (lost : Bool) :
    (c.slipped φ p lost).counter.inRange := by
  obtain ⟨-, -, -, hrest⟩ := hc
  exact ⟨hp, hφ, Nat.zero_le _, hrest⟩

theorem inRange_toDark (hc : c.inRange) (lost : Bool) : (c.toDark lost).counter.inRange := by
  obtain ⟨hp, hφ, -, -, hrest⟩ := hc
  exact ⟨hp, hφ, Nat.zero_le _, Nat.zero_le _, hrest⟩

theorem inRange_stopCoasting (hc : c.inRange) : c.stopCoasting.inRange := by
  obtain ⟨hp, hφ, hstep, hacq, -, hrest⟩ := hc
  exact ⟨hp, hφ, hstep, hacq, Nat.zero_le _, hrest⟩

theorem inRange_coast (hc : c.inRange) {run : Nat} (hrun : run ≤ 1000) :
    (c.coast run).counter.inRange := by
  unfold coast
  dsimp only
  split
  next hp =>
    obtain ⟨-, -, hstep, hacq, -, hrest⟩ := hc
    exact ⟨countInRange_iff.mp hp, modPhase_le _, hstep, hacq, hrun, hrest⟩
  next => exact inRange_slipped (inRange_stopCoasting hc) (modPhase_le _) (clampCount_mem _) true

/-- 02 R18 to R25: a sample with a phase in range leaves the counter in range. -/
theorem inRange_arrive (hc : c.inRange) {φ : Nat} (hφ : φ ≤ 1023) (amp : Nat) :
    (c.arrive φ amp).counter.inRange := by
  have hstop := inRange_stopCoasting hc
  have ⟨hp, hlast, hstep, hacq, hrun, hr0, hfloor, hlimit⟩ := hc
  unfold arrive
  split
  case h_1 => exact hc
  case h_2 =>
    split
    · split
      · exact ⟨hp, hφ, Nat.zero_le _, Nat.zero_le _, hrun, hr0, hfloor, hlimit⟩
      · next hshort =>
        exact ⟨hp, hlast, hstep, show c.acquireRun + 1 ≤ 64 by omega, hrun, hr0, hfloor, hlimit⟩
    · exact ⟨hp, hlast, hstep, Nat.zero_le _, hrun, hr0, hfloor, hlimit⟩
  case h_3 =>
    split
    · split
      · next hu => exact inRange_accept hc _ hφ hu
      · next hu => exact inRange_slipped hc hφ (unwrap_slip hc hu) _
    · exact inRange_toDark hc _
  case h_4 =>
    split
    · split
      · next hu => exact inRange_accept hc _ hφ hu
      · next hu => exact inRange_slipped hc hφ (unwrap_slip hc hu) _
    · exact inRange_coast hc (by decide)
  case h_5 =>
    split
    · split
      · next hu => exact inRange_accept hstop _ hφ hu
      · next hu => exact inRange_slipped hstop hφ (unwrap_slip hc hu) _
    · split
      · exact inRange_coast hc (by omega)
      · exact inRange_toDark hstop _

theorem inRange_enable (hc : c.inRange) : c.enable.inRange := by
  obtain ⟨-, -, -, -, -, hrest⟩ := hc
  have hzero : (-140737488355327 : Int) ≤ 0 ∧ (0 : Int) ≤ 140737488355327 := by decide
  exact ⟨hzero, Nat.zero_le _, Nat.zero_le _, Nat.zero_le _, Nat.zero_le _, hrest⟩

theorem inRange_disable (hc : c.inRange) : c.disable.inRange := by
  obtain ⟨hp, hφ, hstep, -, -, hrest⟩ := hc
  exact ⟨hp, hφ, hstep, Nat.zero_le _, Nat.zero_le _, hrest⟩

theorem inRange_restart (hc : c.inRange) : c.restart.inRange := by
  unfold restart
  split
  · exact hc
  all_goals exact inRange_enable hc

/-- 02 R30: the settings of a CHANNEL_SET whose floor passes its range test. -/
theorem inRange_settings (hc : c.inRange) {floor : Nat} (hfloor : 64 ≤ floor ∧ floor ≤ 1800)
    (limit trim : Nat) : (c.settings floor (clampNat 1 1000 limit) trim).inRange := by
  obtain ⟨hp, hφ, hstep, hacq, hrun, hr0, -, -⟩ := hc
  refine ⟨hp, hφ, hstep, hacq, hrun, hr0, hfloor, ?_⟩
  show 1 ≤ clampNat 1 1000 limit ∧ clampNat 1 1000 limit ≤ 1000
  unfold clampNat
  omega

/-- 02 R33: a PRESET whose count passes its range test. -/
theorem inRange_preset (hc : c.inRange) {p rEff : Int} (hp : countInRange p = true)
    (hr : 0 ≤ rEff ∧ rEff ≤ 1000000) : (c.preset p rEff).inRange := by
  obtain ⟨-, hφ, hstep, hacq, hrun, -, hrest⟩ := hc
  exact ⟨countInRange_iff.mp hp, hφ, hstep, hacq, hrun, hr, hrest⟩

theorem inRange_rebase (hc : c.inRange) (dp : Int) {rEff : Int} (hr : 0 ≤ rEff ∧ rEff ≤ 1000000) :
    (c.rebase dp rEff).inRange := by
  obtain ⟨-, hφ, hstep, hacq, -, -, hrest⟩ := hc
  exact ⟨clampCount_mem _, hφ, hstep, hacq, Nat.zero_le _, hr, hrest⟩

end Counter

/-! #### Extremes and parameter sets -/

theorem EllipseSet.inRange_nominal : EllipseSet.nominal.inRange := by decide

theorem Extremes.inCodes_add {e : Extremes} (he : e.inCodes) {c s : Int} (hc : isCode c)
    (hs : isCode s) : (e.add c s).inCodes := by
  obtain ⟨hmaxC, hminC, hmaxS, hminS, hat⟩ := he
  refine ⟨?_, ?_, ?_, ?_, ?_⟩ <;> (simp only [Extremes.add]; split <;> assumption)

/-- 03 R43: the extremes stay codes as a sample is collected. -/
theorem Accumulator.inCodes_add {a : Accumulator} {m : ChannelSample}
    (ha : ∀ e, a.extremes = some e → e.inCodes) (hm : isCode m.c ∧ isCode m.s) :
    ∀ e, (a.add m).extremes = some e → e.inCodes := by
  obtain ⟨hc, hs⟩ := hm
  intro e he
  simp only [Accumulator.add] at he
  split at he
  · exact ha e he
  · split at he
    · cases he
      exact ⟨hc, hc, hs, hs, hs⟩
    · next old hold =>
      cases he
      exact Extremes.inCodes_add (ha old hold) hc hs

theorem isCode_midpoint {a b : Int} (ha : isCode a) (hb : isCode b) : isCode (midpoint a b) := by
  unfold midpoint
  constructor <;> omega

/-- 03 R48: an offset stays a code as it steps toward a midpoint of codes, because the step does not pass
the midpoint. -/
theorem isCode_add_offsetStep {mid offset : Int} (hm : isCode mid) (ho : isCode offset) :
    isCode (offset + offsetStep mid offset) := by
  have htdiv : (mid - offset).tdiv 8 = (mid - offset) / 8
      ∨ (mid - offset).tdiv 8 = (mid - offset) / 8 + 1 ∧ mid < offset := by
    rw [Int.tdiv_eq_ediv]
    split
    · exact .inl (add_zero _)
    · exact .inr ⟨rfl, by omega⟩
  unfold offsetStep clamp
  constructor <;> omega

/-- 03 R47, R48: a computed set is in range. -/
theorem fitArithmetic_inRange {kind : EstimateKind} {floor : Nat} {inForce new : EllipseSet}
    {ex : Option Extremes} (hf : inForce.inRange) (hex : ∀ e, ex = some e → e.inCodes)
    (h : (fitArithmetic kind floor inForce ex).newSet = some new) : new.inRange := by
  obtain ⟨hoc, hos, hg, hσ⟩ := hf
  cases ex with
  | none => cases h
  | some e =>
    obtain ⟨hmaxC, hminC, hmaxS, hminS, -⟩ := hex e rfl
    have hmidC := isCode_midpoint hmaxC hminC
    have hmidS := isCode_midpoint hmaxS hminS
    cases kind with
    | long =>
      simp only [fitArithmetic, longArithmetic] at h
      split at h
      · cases h
      · cases h
        exact ⟨hmidC, hmidS, clamp_mem (by decide) _, clamp_mem (by decide) _⟩
    | short =>
      simp only [fitArithmetic, shortArithmetic] at h
      split at h
      · cases h
      · cases h
        exact ⟨isCode_add_offsetStep hmidC hoc, isCode_add_offsetStep hmidS hos, hg, hσ⟩

end Sys2Proof.Machine
end

/-! ### A restart, block by block (09 section 9.7) -/

section
namespace Sys2Proof.Machine

/-- 07 R138: the pass monitor a restart leaves, when the newest sample is reported as `k`. -/
def PassUnit.restarted (p : PassUnit) (k : Nat) : PassUnit :=
  { p with
    context := none, prevX := none, idleStrays := 0
    last := (p.context.map (fun c => c.summary k .aborted .restart 0 0)).or p.last }

/-- 08 R141: reference control as a restart leaves it, when the newest sample is reported as `k`. -/
def RerefUnit.restarted (r : RerefUnit) (k : Nat) : RerefUnit :=
  { wait := none
    result := (r.wait.map (fun w =>
      { outcome := .failedRestart, line := w.line, accepting := w.accepting, endSample := k
        discarded := w.discarded, capture := none, applied := none })).or r.result }

theorem LineRecord.restart_discard (r : LineRecord) : r.discard.restart = r.restart := by
  obtain ⟨_, _, _, _, _, _, _, st, _, _, _, _, _, _, _⟩ := r
  cases st <;> rfl

theorem State.passRestart_restartTable (s : State) :
    s.passRestart.restartTable =
      { s with table := s.table.map LineRecord.restart, pass := s.pass.restarted s.newestIndex } := by
  unfold State.passRestart State.discardPass State.restartTable PassUnit.restarted
  split
  · next h => simp only [h, State.withTable, State.withPass, Option.map_none, Option.none_or]
  · next c h =>
    simp only [h, State.withTable, State.withPass, List.map_map, Function.comp_def,
      LineRecord.restart_discard, Option.map_some, Option.some_or]

theorem State.rerefRestart_eq (s : State) :
    s.rerefRestart = { s with reref := s.reref.restarted s.newestIndex } := by
  unfold State.rerefRestart State.endWait RerefUnit.restarted
  split
  · next h => simp only [h, Option.map_none, Option.none_or]; rw [← h]
  · next w h => simp only [h, State.withReref, Option.map_some, Option.some_or]

/-- 09 R167 and the table of section 9.7: a restart, block by block. -/
theorem State.restartAll_eq (s : State) (straps : Nat) :
    s.restartAll straps =
      { s with
        channels := s.restartChannels.channels
        fit := s.fitRestart.fit
        air := s.air.restart
        axis := { s.axis with window := [] }
        line := s.line.restart
        table := s.table.map LineRecord.restart
        pass := s.pass.restarted s.newestIndex
        reref := s.reref.restarted s.newestIndex
        link := s.link.restart straps
        drive := s.drive.restart
        status := { s.status with sticky := Event.restarted.single }
        straps := straps
        arrival := .idle
        freeCount := s.freeCount + 1 } := by
  obtain ⟨f, hf⟩ := s.fitRestart_shape
  unfold State.restartAll
  rw [State.passRestart_restartTable, State.rerefRestart_eq, hf]
  rfl

end Sys2Proof.Machine
end

/-! ### The fields of CHANNEL_SET (02 R30, 11 sections 11.2 and 11.3) -/

section
namespace Sys2Proof.Machine

theorem boolOfCode_eq_some_iff {n : Nat} {b : Bool} : boolOfCode n = some b ↔ n = boolCode b := by
  match n, b with
  | 0, false | 0, true | 1, false | 1, true => decide
  | n + 2, b => cases b <;> simp [boolOfCode, boolCode]

theorem sourceOfCode_eq_some_iff {n : Nat} {x : Source} : sourceOfCode n = some x ↔ n = x.code := by
  match n, x with
  | 0, .detector | 0, .synthetic | 1, .detector | 1, .synthetic => decide
  | n + 2, x => cases x <;> simp [sourceOfCode, Source.code]

theorem senseOfCode_eq_some_iff {n : Nat} {x : Sense} : senseOfCode n = some x ↔ n = x.code := by
  match n, x with
  | 0, .normal | 0, .inverted | 1, .normal | 1, .inverted => decide
  | n + 2, x => cases x <;> simp [senseOfCode, Sense.code]

theorem channelOfCode_eq_none_iff {n : Nat} : channelOfCode n = none ↔ 3 < n := by
  match n with
  | 0 | 1 | 2 | 3 => decide
  | n + 4 => simp [channelOfCode]

/-- 02 R30, 11 R178: the range tests pass exactly for codes that name a choice and values in their
ranges. -/
theorem readChannelFields_eq_some_iff {f : ChannelFields} {q : ChannelRequest} :
    readChannelFields f = some q ↔ channelOfCode f.channel = some q.channel
      ∧ f.enable = boolCode q.enable ∧ f.source = q.source.code ∧ f.sense = q.sense.code
      ∧ (64 ≤ f.floor ∧ f.floor ≤ 1800) ∧ f.synthStep.natAbs ≤ 2047 := by
  rw [← boolOfCode_eq_some_iff, ← sourceOfCode_eq_some_iff, ← senseOfCode_eq_some_iff]
  obtain ⟨ch, en, src, sen⟩ := q
  unfold readChannelFields
  split
  next ch' en' src' sen' hch hen hsrc hsen =>
    rw [hch, hen, hsrc, hsen]
    split <;> simp_all [and_assoc]
  next hnone =>
    simp only [reduceCtorEq, false_iff]
    exact fun h => hnone _ _ _ _ h.1 h.2.1 h.2.2.1 h.2.2.2.1

theorem readChannelFields_isSome_iff {f : ChannelFields} :
    (∃ q, readChannelFields f = some q) ↔ f.channel ≤ 3 ∧ f.enable ≤ 1 ∧ f.source ≤ 1 ∧ f.sense ≤ 1
      ∧ (64 ≤ f.floor ∧ f.floor ≤ 1800) ∧ f.synthStep.natAbs ≤ 2047 := by
  constructor
  · rintro ⟨q, hq⟩
    obtain ⟨hch, hen, hsrc, hsen, hrest⟩ := readChannelFields_eq_some_iff.mp hq
    have hch' : ¬3 < f.channel := fun h => by simp [channelOfCode_eq_none_iff.mpr h] at hch
    rw [hen, hsrc, hsen]
    refine ⟨Nat.le_of_not_lt hch', ?_, ?_, ?_, hrest⟩
    · cases q.enable <;> decide
    · cases q.source <;> decide
    · cases q.sense <;> decide
  · rintro ⟨hch, hen, hsrc, hsen, hrest⟩
    obtain ⟨ch, hch⟩ := Option.ne_none_iff_exists'.mp
      (mt channelOfCode_eq_none_iff.mp (Nat.not_lt_of_le hch))
    refine ⟨⟨ch, decide (f.enable = 1), if f.source = 0 then .detector else .synthetic,
      if f.sense = 0 then .normal else .inverted⟩,
      readChannelFields_eq_some_iff.mpr ⟨hch, ?_, ?_, ?_, hrest⟩⟩
    · rcases Nat.le_one_iff_eq_zero_or_eq_one.mp hen with h | h <;> rw [h] <;> rfl
    · rcases Nat.le_one_iff_eq_zero_or_eq_one.mp hsrc with h | h <;> rw [h] <;> rfl
    · rcases Nat.le_one_iff_eq_zero_or_eq_one.mp hsen with h | h <;> rw [h] <;> rfl

end Sys2Proof.Machine
end

/-! ### Every step keeps the channels in range (01 R6, 02 R17, 03 R47, R48) -/

section
namespace Sys2Proof.Machine

/-! #### What is kept -/

/-- A channel's parameter set and counter are in range. -/
structure ChannelUnit.Ranged (u : ChannelUnit) : Prop where
  params : u.front.params.inRange
  counter : u.counter.inRange

/-- The counters, the parameter sets, the extremes the fit unit has collected and the samples it is handed
are in range: the two invariants, channel by channel. -/
structure State.Ranged (s : State) : Prop where
  channels : ∀ ch, (s.chan ch).Ranged
  extremes : ∀ e, s.fit.acc.extremes = some e → e.inCodes
  samples : ∀ ch m, s.arrival.samples.get ch = some m → isCode m.c ∧ isCode m.s

theorem State.ranged_iff {s : State} : s.Ranged ↔ s.CountersInRange ∧ s.EllipsesInRange :=
  ⟨fun ⟨hch, hex, hsm⟩ => ⟨fun ch => (hch ch).counter, fun ch => (hch ch).params, hex, hsm⟩,
    fun ⟨hcnt, hpar, hex, hsm⟩ => ⟨fun ch => ⟨hpar ch, hcnt ch⟩, hex, hsm⟩⟩

theorem PerChannel.get_set {α : Type} (p : PerChannel α) (ch c : Channel) (v : α) :
    (p.set ch v).get c = if c = ch then v else p.get c := by
  cases ch <;> cases c <;> rfl

theorem PerChannel.get_map {α β : Type} (f : α → β) (p : PerChannel α) (ch : Channel) :
    (p.map f).get ch = f (p.get ch) := by
  cases ch <;> rfl

/-- 04 R62: the effective refractivity is clamped. -/
theorem State.rEff_mem (s : State) : 0 ≤ s.rEff ∧ s.rEff ≤ 1000000 := clamp_mem (by decide) _

theorem State.chan_setChan (s : State) (ch c : Channel) (u : ChannelUnit) :
    (s.setChan ch u).chan c = if c = ch then u else s.chan c :=
  PerChannel.get_set s.channels ch c u

namespace State.Ranged

variable {s t : State}

/-- The invariant reads no other field. -/
theorem congr (h : s.Ranged) (hc : t.channels = s.channels) (hf : t.fit.acc = s.fit.acc)
    (ha : t.arrival.samples = s.arrival.samples) : t.Ranged := by
  obtain ⟨hch, hex, hsm⟩ := h
  refine ⟨fun ch => ?_, by rwa [hf], by rwa [ha]⟩
  rw [State.chan, hc]
  exact hch ch

/-- A fold of an operation that keeps the invariant keeps it. -/
theorem foldl {α : Type} {f : State → α → State} (hf : ∀ (t : State) (a : α), t.Ranged → (f t a).Ranged)
    (l : List α) (h : s.Ranged) : (l.foldl f s).Ranged := by
  induction l generalizing s with
  | nil => exact h
  | cons a l ih => exact ih (hf s a h)

/-! #### Channels -/

theorem setChan (h : s.Ranged) (ch : Channel) {u : ChannelUnit} (hu : u.Ranged) :
    (s.setChan ch u).Ranged := by
  refine ⟨fun c => ?_, h.extremes, h.samples⟩
  rw [State.chan_setChan]
  split
  · exact hu
  · exact h.channels c

theorem setCounter (h : s.Ranged) (ch : Channel) {c : Counter} (hc : c.inRange) :
    (s.setCounter ch c).Ranged :=
  h.setChan ch ⟨(h.channels ch).params, hc⟩

theorem setParams (h : s.Ranged) (ch : Channel) {e : EllipseSet} (he : e.inRange) :
    (s.setParams ch e).Ranged :=
  h.setChan ch ⟨he, (h.channels ch).counter⟩

theorem swap (h : s.Ranged) (ch : Channel) {new : EllipseSet} (hnew : new.inRange) (c v : Int) :
    (s.swap ch new c v).Ranged := by
  obtain ⟨hp, -, hrest⟩ := (h.channels ch).counter
  exact h.setChan ch ⟨hnew, hp, pairPhase_le _ _ _ _, hrest⟩

/-! #### Fit unit -/

theorem withAcc (h : s.Ranged) {f : FitUnit} (hf : ∀ e, f.acc.extremes = some e → e.inCodes) :
    (s.withFit f).Ranged :=
  ⟨h.channels, hf, h.samples⟩

theorem withEmptyAcc (h : s.Ranged) {f : FitUnit} (hf : f.acc = .empty) : (s.withFit f).Ranged :=
  h.withAcc fun e he => by rw [hf] at he; cases he

theorem fitOutcome (h : s.Ranged) (ch : Channel) (r : FitResult) : (s.fitOutcome ch r).Ranged :=
  h.congr rfl rfl rfl

theorem endWorking (h : s.Ranged) (r : FitRequest) (o : FitOutcome) : (s.endWorking r o).Ranged :=
  (h.fitOutcome _ _).withEmptyAcc rfl

theorem endWorkingOf (h : s.Ranged) (ch : Channel) (o : FitOutcome) : (s.endWorkingOf ch o).Ranged := by
  unfold State.endWorkingOf
  split
  · exact h
  · split
    · exact h.endWorking _ o
    · exact h

theorem endWaiting (h : s.Ranged) (ch : Channel) (o : FitOutcome) : (s.endWaiting ch o).Ranged := by
  unfold State.endWaiting
  split <;> exact h.congr rfl rfl rfl

theorem fitObserve (h : s.Ranged) : s.fitObserve.Ranged := by
  unfold State.fitObserve
  split
  · exact h
  · split
    · exact h
    · next m hm =>
      have hacc := Accumulator.inCodes_add h.extremes (h.samples _ m hm)
      split
      iterate 2 exact h.endWorking _ _
      all_goals
        dsimp only
        split
        · exact ⟨h.channels, hacc, h.samples⟩
        · exact h.withAcc hacc

theorem fitStart (h : s.Ranged) : s.fitStart.Ranged := by
  unfold State.fitStart
  split
  · exact h
  · exact (h.withEmptyAcc rfl).fitObserve

theorem fitFinish (h : s.Ranged) : s.fitFinish.Ranged := by
  unfold State.fitFinish
  split
  · exact h
  · next r _ =>
    split
    · exact h
    · dsimp only
      split
      · exact (h.fitOutcome _ _).withEmptyAcc rfl
      · next new hnew =>
        have hset := fitArithmetic_inRange (h.channels r.channel).params h.extremes hnew
        split
        · exact (h.fitOutcome _ _).withEmptyAcc rfl
        · exact ((h.swap _ hset _ _).fitOutcome _ _).withEmptyAcc rfl

theorem fitTimeout (h : s.Ranged) : s.fitTimeout.Ranged := by
  unfold State.fitTimeout
  split
  · exact h
  · exact h.endWorking _ _

theorem fillSlot (h : s.Ranged) : s.takeSlotFill.Ranged := by
  refine h.congr rfl ?_ rfl
  unfold State.takeSlotFill FitUnit.fillSlot
  split <;> rfl

theorem submit (h : s.Ranged) (r : FitRequest) : (s.withFit (s.fit.submit r)).Ranged := by
  refine h.congr rfl ?_ rfl
  unfold FitUnit.submit
  split <;> rfl

theorem installNominal (h : s.Ranged) (ch : Channel) : (s.installNominal ch).Ranged :=
  (h.setParams ch EllipseSet.inRange_nominal).fitOutcome _ _

theorem clearPendingReset (h : s.Ranged) (ch : Channel) : (s.clearPendingReset ch).Ranged :=
  h.congr rfl rfl rfl

theorem installPending (h : s.Ranged) (ch : Channel) : (s.installPending ch).Ranged := by
  have hclear := h.clearPendingReset ch
  unfold State.installPending
  dsimp only
  split
  iterate 2 exact (hclear.swap ch EllipseSet.inRange_nominal _ _).fitOutcome _ _
  exact hclear.installNominal ch

theorem takeReset (h : s.Ranged) (ch : Channel) : (s.takeReset ch).Ranged := by
  have hend := (h.endWorkingOf ch .abandonedReset).endWaiting ch .abandonedReset
  unfold State.takeReset
  dsimp only
  split
  iterate 2 exact hend.congr rfl rfl rfl
  all_goals exact hend.installNominal ch

theorem fitDisable (h : s.Ranged) (ch : Channel) : (s.fitDisable ch).Ranged := by
  have hend := (h.endWorkingOf ch .abandonedDisabled).endWaiting ch .abandonedDisabled
  unfold State.fitDisable
  dsimp only
  split
  · exact (hend.clearPendingReset ch).installNominal ch
  · exact hend

theorem restartPendingReset (h : s.Ranged) (ch : Channel) : (s.restartPendingReset ch).Ranged := by
  unfold State.restartPendingReset
  split
  · exact h.congr rfl rfl rfl
  · exact h

theorem fitRestart (h : s.Ranged) : s.fitRestart.Ranged := by
  unfold State.fitRestart
  dsimp only
  refine (foldl (fun t ch ht => ht.restartPendingReset ch) allChannels ?_).withEmptyAcc rfl
  split
  · exact h
  · exact h.congr rfl rfl rfl

/-! #### Passes, re-references and captures -/

theorem closeAborted (h : s.Ranged) (r : PassReason) : (s.closeAborted r).Ranged := by
  obtain ⟨_, _, _, e⟩ := s.closeAborted_shape r
  exact e ▸ h.congr rfl rfl rfl

theorem finishWait (h : s.Ranged) (o : RerefOutcome) (c : Option RerefCapture)
    (a : Option RerefApplied) : (s.finishWait o c a).Ranged := by
  obtain ⟨_, _, e⟩ := s.finishWait_shape o c a
  exact e ▸ h.congr rfl rfl rfl

theorem epochMoved (h : s.Ranged) (ch : Channel) : (s.epochMoved ch).Ranged := by
  obtain ⟨_, e⟩ := s.epochMoved_shape ch
  exact e ▸ h.congr rfl rfl rfl

theorem runCheck (h : s.Ranged) : s.runCheck.Ranged := by
  obtain ⟨_, _, _, e⟩ := s.runCheck_shape
  exact e ▸ h.congr rfl rfl rfl

theorem ageStep (h : s.Ranged) : s.ageStep.Ranged := by
  obtain ⟨_, _, e⟩ := s.ageStep_shape
  exact e ▸ h.congr rfl rfl rfl

/-- 08 R147: a datum capture whose effective refractivity is in range. -/
theorem applyDatum (h : s.Ranged) {c : Capture} (hr : 0 ≤ c.rEff ∧ c.rEff ≤ 1000000) (half : Direction)
    (target : Int) : (s.applyDatum c half target).Ranged := by
  unfold State.applyDatum
  dsimp only
  have hxl := h.setCounter .xl (Counter.inRange_rebase (h.channels .xl).counter
    (correctionOf target (pathTerm c.pXL c.wEff) c.wEff) hr)
  have hxr := hxl.setCounter .xr (Counter.inRange_rebase (hxl.channels .xr).counter
    (correctionOf target (pathTerm c.pXR c.wEff) c.wEff) hr)
  refine State.Ranged.finishWait ?_ _ _ _
  exact hxr.congr rfl rfl rfl

theorem rerefCapture (h : s.Ranged) {c : Capture} (hr : 0 ≤ c.rEff ∧ c.rEff ≤ 1000000) :
    (s.rerefCapture c).Ranged := by
  unfold State.rerefCapture
  split
  · exact h
  · split
    · exact h.congr rfl rfl rfl
    · split
      · exact h.finishWait _ _ _
      · exact h.applyDatum hr _ _

theorem completeCapture (h : s.Ranged) : s.completeCapture.Ranged := by
  unfold State.completeCapture
  split
  · exact h
  · split
    · dsimp only [State.routeCapture]
      split
      · refine State.Ranged.rerefCapture ?_ (State.rEff_mem _)
        exact h.congr rfl rfl rfl
      · obtain ⟨_, _, e⟩ := State.tableCapture_shape _ _
        exact e ▸ h.congr rfl rfl rfl
    · split
      · exact h.congr rfl rfl rfl
      · exact h

/-! #### Restarts -/

theorem restartChannels (h : s.Ranged) : s.restartChannels.Ranged := by
  refine ⟨fun ch => ?_, h.extremes, h.samples⟩
  have hch := h.channels ch
  cases ch <;> exact ⟨hch.params, Counter.inRange_restart hch.counter⟩

theorem of_idle {t : State} (hch : ∀ ch, (t.chan ch).Ranged)
    (hex : ∀ e, t.fit.acc.extremes = some e → e.inCodes) (ha : t.arrival = .idle) : t.Ranged := by
  refine ⟨hch, hex, fun ch m hm => ?_⟩
  rw [ha] at hm
  cases ch <;> cases hm

theorem restartAll (h : s.Ranged) (straps : Nat) : (s.restartAll straps).Ranged := by
  rw [State.restartAll_eq]
  exact of_idle h.restartChannels.channels h.fitRestart.extremes rfl

end State.Ranged

/-- The part right after power-on reset is in range. -/
theorem State.ranged_reset : State.reset.Ranged :=
  State.Ranged.of_idle (fun ch => by cases ch <;> exact ⟨by decide, by decide⟩)
    (fun _ he => by cases he) rfl

namespace State.Ranged

variable {s t : State}

theorem powerOn (s : State) (straps : Nat) : (s.powerOn straps).Ranged :=
  State.ranged_reset.congr rfl rfl rfl

/-! #### Events that are due -/

theorem takeAgeTick (h : s.Ranged) : s.takeAgeTick.Ranged := by
  unfold State.takeAgeTick
  split
  · exact State.Ranged.ageStep (h.congr rfl rfl rfl)
  · exact h

theorem takeFitBegin (h : s.Ranged) : s.takeFitBegin.Ranged := by
  unfold State.takeFitBegin
  split
  · exact State.Ranged.fitStart (h.congr rfl rfl rfl)
  · exact h

theorem takeFitComplete (h : s.Ranged) : s.takeFitComplete.Ranged := by
  unfold State.takeFitComplete
  split
  · exact State.Ranged.fitFinish (h.congr rfl rfl rfl)
  · exact h

theorem takeResetInstall (h : s.Ranged) (ch : Channel) : (s.takeResetInstall ch).Ranged := by
  unfold State.takeResetInstall
  split
  · refine State.Ranged.installPending ?_ ch
    exact h.congr rfl rfl rfl
  · exact h

theorem takeResetInstalls (h : s.Ranged) : s.takeResetInstalls.Ranged :=
  (((h.takeResetInstall .xl).takeResetInstall .xr).takeResetInstall .y).takeResetInstall .t

theorem takeFitTimer (h : s.Ranged) (lead : Nat) : (s.takeFitTimer lead).Ranged := by
  unfold State.takeFitTimer
  split
  · exact h.fitTimeout
  · exact h

theorem takeCheck (h : s.Ranged) : s.takeCheck.Ranged := by
  unfold State.takeCheck
  split
  · exact State.Ranged.runCheck (h.takeAgeTick.congr rfl rfl rfl)
  · exact h

theorem takeReport (h : s.Ranged) : s.takeReport.Ranged := by
  unfold State.takeReport
  split
  · exact h.takeAgeTick.congr rfl rfl rfl
  · exact h

theorem takeCapture (h : s.Ranged) : s.takeCapture.Ranged := by
  unfold State.takeCapture
  split
  · refine State.Ranged.completeCapture ?_
    split
    · exact h.takeAgeTick.takeFitBegin.takeResetInstalls.takeCheck.takeReport
    · exact h.takeAgeTick
  · exact h

theorem takeRerefExpiry (h : s.Ranged) : s.takeRerefExpiry.Ranged := by
  unfold State.takeRerefExpiry
  split
  · refine State.Ranged.finishWait ?_ _ _ _
    exact h.congr rfl rfl rfl
  · exact h

theorem takeBaud (h : s.Ranged) : s.takeBaud.Ranged := by
  unfold State.takeBaud
  split <;> exact h.congr rfl rfl rfl

theorem takeRestart (h : s.Ranged) (straps : Nat) : (s.takeRestart straps).Ranged := by
  unfold State.takeRestart
  split
  · exact h.restartAll straps
  · exact h

theorem settleArrival (h : s.Ranged) : s.settleArrival.Ranged :=
  have hfit := h.takeAgeTick.takeFitBegin.takeFitComplete.takeResetInstalls.fillSlot
  (hfit.takeFitTimer 0).fillSlot.takeCheck.takeReport.takeCapture.takeRerefExpiry

/-! #### The sample arrival -/

end State.Ranged

/-- 01 R3, 02 R18 to R25: a channel that handles a pair stays in range. -/
theorem ChannelUnit.Ranged.arrive {u : ChannelUnit} (h : u.Ranged) (p : Pair) :
    (u.arrive p).unit.Ranged := by
  obtain ⟨hp, hc⟩ := h
  unfold ChannelUnit.arrive
  split
  · exact ⟨hp, hc⟩
  all_goals exact ⟨hp, Counter.inRange_arrive hc (pairPhase_le _ _ _ _) _⟩

/-- 01 R3, R4: what a channel hands on are codes. -/
theorem ChannelUnit.arrive_sample_isCode {u : ChannelUnit} {p : Pair} {m : ChannelSample}
    (h : (u.arrive p).sample = some m) : isCode m.c ∧ isCode m.s := by
  unfold ChannelUnit.arrive at h
  split at h
  · cases h
  all_goals
    cases h
    exact u.front.workingPair_isCode p

theorem State.channelArrivals_get (s : State) (a : SampleInput) (ch : Channel) :
    (s.channelArrivals a).get ch = (s.chan ch).arrive (a.pairOf ch) := by
  cases ch <;> rfl

namespace State.Ranged

variable {s t : State}

theorem raiseIf (h : s.Ranged) (b : Bool) (e : Event) : (s.raiseIf b e).Ranged := by
  obtain ⟨_, e⟩ := s.raiseIf_shape b e
  exact e ▸ h.congr rfl rfl rfl

theorem takeSample (h : s.Ranged) (k : Nat) (a : SampleInput) :
    (s.takeSample k (s.channelArrivals a)).Ranged := by
  unfold State.takeSample
  refine foldl (fun t ch ht => ht.raiseIf _ _) allChannels ⟨fun ch => ?_, h.extremes, fun ch m hm => ?_⟩
  · have hget := PerChannel.get_map ChannelArrival.unit (s.channelArrivals a) ch
    rw [State.channelArrivals_get] at hget
    exact (congrArg ChannelUnit.Ranged hget).mpr ((h.channels ch).arrive _)
  · have hget := PerChannel.get_map ChannelArrival.sample (s.channelArrivals a) ch
    rw [State.channelArrivals_get] at hget
    exact ChannelUnit.arrive_sample_isCode (hget.symm.trans hm)

theorem trimRequest (h : s.Ranged) (ch : Channel) : (s.trimRequest ch).Ranged := by
  unfold State.trimRequest
  split
  · exact h
  · exact h.submit _

theorem fitArrive (h : s.Ranged) (order : List Channel) (r : PerChannel ChannelArrival) :
    (s.fitArrive order r).Ranged := by
  have htrims : ((s.withArrival { s.arrival with
      fitBegin := s.fit.working.isSome && !s.fit.timer.isSome
      resetInstall := s.fit.pendingReset }).trimRequests order r).Ranged :=
    foldl (fun t ch ht => ht.trimRequest ch) _ (h.congr rfl rfl rfl)
  unfold State.fitArrive
  dsimp only
  split
  · exact htrims.fitObserve
  · exact htrims

theorem airArrive (h : s.Ranged) : s.dropSnapshot.updateDrift.countAge.Ranged := by
  obtain ⟨_, e1⟩ := s.dropSnapshot_shape
  obtain ⟨_, _, e2⟩ := s.dropSnapshot.updateDrift_shape
  have hdrift : s.dropSnapshot.updateDrift.Ranged := by
    rw [e2, e1]
    exact h.congr rfl rfl rfl
  unfold State.countAge
  repeat' split
  all_goals exact hdrift.congr rfl rfl rfl

theorem epochsArrived (h : s.Ranged) (old : BitVec 32 × BitVec 32) (k : Nat) :
    (s.epochsArrived old k).Ranged := by
  unfold State.epochsArrived
  split
  · exact h
  · obtain ⟨_, e⟩ := s.moveValidFrom_shape k
    exact e ▸ h.congr rfl rfl rfl

theorem countReport (h : s.Ranged) : s.countReport.Ranged := by
  unfold State.countReport
  split <;> exact h.congr rfl rfl rfl

theorem endings (h : s.Ranged) (before : State) (first : Bool) : (s.endings before first).Ranged := by
  unfold State.endings
  dsimp only
  have hcapture (b : Bool) : (if b then s.takeCapture else s).Ranged := by
    cases b
    exacts [h, h.takeCapture]
  have habort (b b' : Bool) : (if b then (if b' then s.takeCapture else s).closeAborted .referenceLost
      else if b' then s.takeCapture else s).Ranged := by
    cases b
    exacts [hcapture b', (hcapture b').closeAborted _]
  split
  · exact (habort _ _).finishWait _ _ _
  · exact habort _ _

theorem arrive (h : s.Ranged) (a : SampleInput) : (s.arrive a).Ranged := by
  have hsample := h.takeSample s.arrivingIndex a
  have hwindow : (((s.takeSample s.arrivingIndex (s.channelArrivals a)).fitArrive a.trimOrder
      (s.channelArrivals a)).pushWindow s.arrivingIndex).Ranged :=
    (hsample.fitArrive _ _).congr rfl rfl rfl
  have hdue := (hwindow.airArrive.epochsArrived s.measuringEpochs s.arrivingIndex).congr
    (t := State.makeDue _ s.arrivingIndex) rfl rfl rfl
  exact hdue.countReport.endings s _

theorem pulse (h : s.Ranged) (edge : Edge) (e : Nat) : (s.pulse edge e).Ranged := by
  unfold State.pulse
  repeat' split
  all_goals exact h.congr rfl rfl rfl

/-! #### Requests -/

theorem serveRecord (h : s.Ranged) (line : Int) (eff : LineRecord → RecordEffect) :
    (s.serveRecord line eff).state.Ranged := by
  unfold State.serveRecord
  repeat' split
  all_goals exact h.congr rfl rfl rfl

theorem enableChannel (h : s.Ranged) (ch : Channel) : (s.enableChannel ch).Ranged :=
  State.Ranged.epochMoved
    (h.setChan ch (u := ⟨(s.chan ch).front.enable, (s.chan ch).counter.enable⟩)
      ⟨(h.channels ch).params, Counter.inRange_enable (h.channels ch).counter⟩) ch

theorem disableChannel (h : s.Ranged) (ch : Channel) : (s.disableChannel ch).Ranged := by
  have hfit := (h.setCounter ch (Counter.inRange_disable (h.channels ch).counter)).fitDisable ch
  unfold State.disableChannel State.measuringLost
  dsimp only
  split
  iterate 2 exact (hfit.closeAborted _).finishWait _ _ _
  all_goals exact hfit

theorem serveChannelSet (h : s.Ranged) (f : ChannelFields) : (s.serveChannelSet f).state.Ranged := by
  unfold State.serveChannelSet
  split
  · exact h
  · next q hq =>
    obtain ⟨-, -, -, -, hfloor, -⟩ := readChannelFields_eq_some_iff.mp hq
    have hset := h.setChan q.channel (u := (s.chan q.channel).settings q f)
      ⟨(h.channels _).params, Counter.inRange_settings (h.channels _).counter hfloor _ _⟩
    dsimp only
    split
    · exact hset.enableChannel _
    · split
      · exact hset.disableChannel _
      · exact hset

theorem servePreset (h : s.Ranged) (channel : Nat) (p : Int) : (s.servePreset channel p).state.Ranged := by
  unfold State.servePreset
  split
  · exact h
  · next ch _ =>
    split
    · exact h
    · next hp =>
      have hpreset := (h.setCounter ch (Counter.inRange_preset (h.channels ch).counter
        (by simpa using hp) s.rEff_mem)).epochMoved ch
      split
      iterate 3 exact h
      all_goals
        split
        · exact h
        · exact hpreset

theorem serveFit (h : s.Ranged) (channel kind : Nat) : (s.serveFit channel kind).state.Ranged := by
  have hestimate (ch : Channel) (k : EstimateKind) : (s.serveEstimate ch k).state.Ranged := by
    unfold State.serveEstimate
    repeat' split
    exacts [h, h, h.submit _]
  have hreset (ch : Channel) : (s.serveReset ch).state.Ranged := by
    unfold State.serveReset
    split
    exacts [h, h.takeReset ch]
  unfold State.serveFit
  split
  · exact h
  · split
    exacts [hestimate _ _, hestimate _ _, hreset _, h]

/-- 09 R158 step 3: whatever its owner makes of a request, the channels stay in range. Beside the requests of
the channels and the fit unit none touches them: the owners' other branches replace fields of other blocks. -/
theorem serve (h : s.Ranged) (r : Request) : (s.serve r).state.Ranged := by
  cases r
  case channelSet f => exact h.serveChannelSet f
  case preset c p => exact h.servePreset c p
  case fit c k => exact h.serveFit c k
  case arm | disarm | retire | drop | clear => exact h.serveRecord _ _
  case passClose =>
    dsimp only [State.serve, State.servePassClose]
    split
    · exact h
    · obtain ⟨_, _, _, e⟩ := s.closeComplete_shape .closeRequest
      exact e ▸ h.congr rfl rfl rfl
  case passAbort =>
    dsimp only [State.serve, State.servePassAbort]
    split
    · exact h
    · exact h.closeAborted _
  case rerefCancel =>
    dsimp only [State.serve, State.serveRerefCancel]
    split
    · exact h.finishWait _ _ _
    · exact h
  all_goals
    dsimp only [State.serve, State.servePlace, State.serveAmend, State.serveRead, State.serveStep,
      State.serveClassOp, State.serveReadChannel, State.serveFitResult, State.serveAirSet,
      State.serveTrackerSet, State.serveGeometrySet, State.serveLineSet, State.servePassSet,
      State.servePassOpen, State.serveReref, State.serveDriveSet, State.serveLinkSet]
    repeat' split
    all_goals exact h.congr rfl rfl rfl

/-! #### The link -/

theorem finish {v : Served} (h : v.state.Ranged) (own : Bool) (code tag : Byte) :
    (v.finish own code tag).Ranged := by
  unfold Served.finish State.afterService
  repeat' split
  all_goals exact h.congr rfl rfl rfl

theorem serveRequest (h : s.Ranged) (own : Bool) (tag : Byte) (r : Request) :
    (s.serveRequest own tag r).Ranged :=
  finish (h.serve r) own r.code tag

theorem serveFrame (h : s.Ranged) (f : Frame) : (s.serveFrame f).Ranged := by
  unfold State.serveFrame
  split
  · exact h.serveRequest _ _ _
  all_goals exact finish h _ _ _

theorem offer (h : s.Ranged) (f : Frame) : (s.offer f).Ranged := by
  unfold State.offer
  split
  · exact h.serveFrame f
  · split <;> exact h.congr rfl rfl rfl

theorem takeFrame (h : s.Ranged) (address : Byte) (payload : Bytes) :
    (s.takeFrame address payload).Ranged := by
  unfold State.takeFrame
  split
  · exact h
  · exact h.offer _

theorem takeRequest (h : s.Ranged) (hd : Header) (r : Request) : (s.takeRequest hd r).Ranged := by
  unfold State.takeRequest
  split
  · exact h
  · split
    · exact h.serveRequest _ _ _
    · exact h.offer _

theorem takeBuffered (h : s.Ranged) : s.takeBuffered.Ranged := by
  unfold State.takeBuffered
  split
  · refine State.Ranged.serveFrame ?_ _
    exact h.congr rfl rfl rfl
  · exact h

theorem character (h : s.Ranged) (v : Byte) : (s.character v).Ranged := by
  unfold State.character
  dsimp only
  split
  case h_6 =>
    unfold State.frameComplete
    dsimp only
    split
    · refine State.Ranged.takeFrame ?_ _ _
      exact h.congr rfl rfl rfl
    · exact h.congr rfl rfl rfl
  case h_1 => split <;> exact h.congr rfl rfl rfl
  case h_3 => split <;> exact h.congr rfl rfl rfl
  all_goals exact h.congr rfl rfl rfl

theorem characterError (h : s.Ranged) : s.characterError.Ranged := by
  unfold State.characterError
  split <;> exact h.congr rfl rfl rfl

theorem gap (h : s.Ranged) : s.gap.Ranged := by
  unfold State.gap
  split <;> exact h.congr rfl rfl rfl

theorem replyEnd (h : s.Ranged) : s.replyEnd.Ranged := by
  unfold State.replyEnd
  repeat' split
  all_goals exact h.congr rfl rfl rfl

theorem settle (h : s.Ranged) : s.settle.Ranged :=
  (((h.settleArrival.takeBaud.takeRestart _).takeBuffered).takeRestart _).fillSlot

theorem request (h : s.Ranged) (hd : Header) (r : Request) : (s.request hd r).Ranged :=
  h.settle.takeRequest hd r

end State.Ranged

/-! #### Commands -/

/-- A request command is its request, served (09 R156). -/
theorem exec_of_request {c : Instr} {hd : Header} {r : Request} (h : c.request = some (hd, r))
    (s : State) : exec c s = .next (s.request hd r) := by
  cases c <;> cases h <;> rfl

/-- Every command keeps the channels in range. -/
theorem State.Ranged.exec {s t : State} (h : s.Ranged) {c : Instr} (e : Machine.exec c s = .next t) :
    t.Ranged := by
  cases hreq : c.request with
  | some p =>
    rw [exec_of_request hreq] at e
    cases e
    exact h.request _ _
  | none =>
    cases c
    case powerOnReset straps => cases e; exact powerOn s straps
    case restartLine active straps =>
      cases e
      split
      · exact (h.settle.restartAll straps).congr rfl rfl rfl
      · exact h.settle.congr rfl rfl rfl
    case sampleArrival a => cases e; exact h.settle.arrive a
    case ageTick => cases e; exact h.takeAgeTick
    case check => cases e; exact h.takeCheck
    case pulseArrival edge time => cases e; exact h.settle.pulse edge time
    case captureFormed => cases e; exact h.takeCapture
    case fitBegin => cases e; exact h.takeFitBegin
    case slotFill => cases e; exact h.fillSlot
    case fitComplete => cases e; exact h.takeFitComplete
    case fitTimerExpiry => cases e; exact h.takeFitTimer 1
    case resetInstall ch => cases e; exact h.takeResetInstall ch
    case rerefTimerExpiry => cases e; exact h.takeRerefExpiry
    case reportExpiry => cases e; exact h.takeReport
    case driveFrameEnd => cases e; exact h.settle.congr rfl rfl rfl
    case receiveCharacter value stopBit =>
      cases e
      split
      exacts [h.settle.character value, h.settle.characterError]
    case gapExpiry => cases e; exact h.settle.gap
    case bufferedFrameService =>
      simp only [Machine.exec, execBufferedFrameService] at e
      split at e <;> cases e
      exacts [(h.settleArrival.takeBaud.takeRestart _).takeBuffered, h]
    case replySent => cases e; exact h.settle.replyEnd
    case baudChange => cases e; exact h.takeBaud
    case restartTaken straps =>
      simp only [Machine.exec, execRestartTaken] at e
      split at e <;> cases e
      exacts [h.settleArrival.takeBaud.takeRestart straps, h]
    case unknownRequest address payload =>
      simp only [Machine.exec, execUnknownRequest] at e
      split at e <;> cases e
      exacts [h.settle.takeFrame address payload, h]
    all_goals cases hreq

/-- Settles O56: the command at the front runs on a state with the same channels. -/
theorem channelsStayInRange : Obligations.ChannelsStayInRange := by
  intro s t h e
  rw [← State.ranged_iff] at h ⊢
  unfold step at e
  split at e
  · cases e
    exact h
  · refine State.Ranged.exec ?_ e
    exact h.congr rfl rfl rfl

end Sys2Proof.Machine
end

/-! ### The part right after power-on reset (01 R14, 02 R37, 03 R56 and each block's reset) -/

section
namespace Sys2Proof.Machine

theorem State.fitUnitSound_reset : State.reset.FitUnitSound :=
  ⟨by decide, by decide, fun _ => ⟨rfl, rfl⟩⟩

theorem State.ageSound_reset : State.reset.AgeSound := ⟨by decide, by decide, by decide⟩

/-- With no record in the table, no pass open and no wait, the invariants of 06, 07 and 08 have nothing to
speak of. -/
theorem State.tableInvariants_of_empty {s : State} (ht : s.table = []) (hp : s.pass.context = none)
    (hw : s.reref.wait = none) :
    s.TableOrdered ∧ s.HalvesSound ∧ s.PendingSound ∧ s.PassReferenced ∧ s.WaitHasSignal
      ∧ s.TakenBounded := by
  simp [State.TableOrdered, State.HalvesSound, State.PendingSound, State.PassReferenced,
    State.WaitHasSignal, State.TakenBounded, ht, hp, hw]

/-- Settles O60: the channels and the fit unit by their reset values, every other block
because it is empty. -/
theorem resetMeetsInvariants : Obligations.ResetMeetsInvariants := by
  have ⟨hcounters, hellipses⟩ := State.ranged_iff.mp State.ranged_reset
  have hwindow : State.reset.WindowSound := ⟨by decide, trivial, fun e he => by cases he⟩
  exact ⟨hcounters, hellipses, State.fitUnitSound_reset, State.ageSound_reset, hwindow,
    State.tableInvariants_of_empty rfl rfl rfl⟩

end Sys2Proof.Machine
end

/-! ### Amplitude and phase of a point (01 R8, R9) -/

section
namespace Sys2Proof.Machine

/-! #### The amplitude -/

/-- 01 R8: the amplitude is the square root rounded down. -/
theorem amplitudeOf_bounds (x y : Int) :
    (amplitudeOf x y : Int) * amplitudeOf x y ≤ x * x + y * y
      ∧ x * x + y * y < ((amplitudeOf x y : Int) + 1) * ((amplitudeOf x y : Int) + 1) := by
  have hnonneg : 0 ≤ x * x + y * y := add_nonneg (mul_self_nonneg x) (mul_self_nonneg y)
  rw [amplitudeOf, isqrt_eq_sqrt, ← Int.toNat_of_nonneg hnonneg, Int.toNat_natCast]
  exact_mod_cast And.intro (Nat.sqrt_le _) (Nat.lt_succ_sqrt _)

/-! #### The angle in turns -/

/-- The angle of a point in turns, counted from the positive x axis toward the positive y axis, in 0..1. -/
noncomputable def turnOf (x y : Int) : ℝ :=
  Int.fract (Complex.arg ⟨x, y⟩ / (2 * Real.pi))

theorem turnOf_lt_half_iff (x y : Int) : turnOf x y < 1 / 2 ↔ ¬(y < 0 ∨ (y = 0 ∧ x < 0)) := by
  have hpi := Real.pi_pos
  set z : ℂ := ⟨x, y⟩ with hz
  have hlow := Complex.neg_pi_lt_arg z
  have hhigh := Complex.arg_le_pi z
  have hneg : z.arg < 0 ↔ y < 0 := Complex.arg_neg_iff.trans Int.cast_lt_zero
  have hstraight : z.arg = Real.pi ↔ y = 0 ∧ x < 0 := by
    rw [Complex.arg_eq_pi_iff, and_comm]
    exact and_congr Int.cast_eq_zero Int.cast_lt_zero
  rw [← hneg, ← hstraight, turnOf, ← hz]
  rcases lt_or_ge z.arg 0 with h | h
  · have hfract : Int.fract (z.arg / (2 * Real.pi)) = z.arg / (2 * Real.pi) + 1 := by
      rw [Int.fract_eq_iff]
      refine ⟨?_, ?_, -1, by push_cast; ring⟩
      · rw [← neg_le_iff_add_nonneg, le_div_iff₀ (by positivity)]
        linarith
      · have := div_neg_of_neg_of_pos h (show 0 < 2 * Real.pi by positivity)
        linarith
    have hhalf : -(1 / 2) < z.arg / (2 * Real.pi) := by
      rw [lt_div_iff₀ (by positivity)]
      linarith
    simp only [hfract, h, true_or, not_true, iff_false, not_lt]
    linarith
  · have hfract : Int.fract (z.arg / (2 * Real.pi)) = z.arg / (2 * Real.pi) := by
      rw [Int.fract_eq_self]
      refine ⟨by positivity, ?_⟩
      rw [div_lt_one (by positivity)]
      linarith
    rw [hfract, div_lt_iff₀ (by positivity), not_or, not_lt, and_iff_right h]
    constructor
    · intro hlt heq
      linarith
    · intro hne
      have := lt_of_le_of_ne hhigh hne
      linarith

/-- The product of two points, neither the origin, has the sum of their angles. -/
theorem turnOf_mul {x y u v : Int} (h : x ≠ 0 ∨ y ≠ 0) (h' : u ≠ 0 ∨ v ≠ 0) :
    turnOf (x * u - y * v) (x * v + y * u) = Int.fract (turnOf x y + turnOf u v) := by
  have hne {a b : Int} (hab : a ≠ 0 ∨ b ≠ 0) : (⟨a, b⟩ : ℂ) ≠ 0 := by
    intro hz
    have hre := congrArg Complex.re hz
    have him := congrArg Complex.im hz
    simp at hre him
    omega
  have hproduct : (⟨((x * u - y * v : Int) : ℝ), ((x * v + y * u : Int) : ℝ)⟩ : ℂ)
      = ⟨x, y⟩ * ⟨u, v⟩ := by
    apply Complex.ext <;> simp
  obtain ⟨k, hk⟩ := Real.Angle.angle_eq_iff_two_pi_dvd_sub.mp
    ((Complex.arg_mul_coe_angle (hne h) (hne h')).trans (Real.Angle.coe_add _ _).symm)
  have hpi : 2 * Real.pi ≠ 0 := by positivity
  rw [turnOf, hproduct, Int.fract_eq_fract]
  refine ⟨k + ⌊Complex.arg ⟨x, y⟩ / (2 * Real.pi)⌋ + ⌊Complex.arg ⟨u, v⟩ / (2 * Real.pi)⌋, ?_⟩
  rw [turnOf, turnOf, Int.fract, Int.fract]
  push_cast
  field_simp
  linear_combination hk

/-- Squaring a point doubles its angle. -/
theorem turnOf_square {x y : Int} (h : x ≠ 0 ∨ y ≠ 0) :
    turnOf (x * x - y * y) (2 * x * y) = Int.fract (2 * turnOf x y) := by
  have hdouble : 2 * x * y = x * y + y * x := by ring
  rw [hdouble, turnOf_mul h h, two_mul]

/-- A point other than the origin has a square other than the origin. -/
theorem square_ne_zero {x y : Int} (h : x ≠ 0 ∨ y ≠ 0) : x * x - y * y ≠ 0 ∨ 2 * x * y ≠ 0 := by
  by_contra hzero
  push Not at hzero
  obtain ⟨hre, him⟩ := hzero
  rcases mul_eq_zero.mp him with hx | rfl
  · obtain rfl : x = 0 := by omega
    have : y = 0 := by simpa using hre
    omega
  · have : x = 0 := by simpa using hre
    omega

/-- A quarter turn from the positive x axis toward the positive y axis adds a quarter. -/
theorem turnOf_quarterTurn {x y : Int} (h : x ≠ 0 ∨ y ≠ 0) :
    turnOf (-y) x = Int.fract (turnOf x y + 1 / 4) := by
  have hquarter : turnOf 0 1 = 1 / 4 := by
    have hI : (⟨((0 : Int) : ℝ), ((1 : Int) : ℝ)⟩ : ℂ) = Complex.I := by
      apply Complex.ext <;> simp
    have hpi : Real.pi ≠ 0 := by positivity
    have hdiv : Real.pi / 2 / (2 * Real.pi) = 1 / 4 := by
      field_simp
      norm_num
    rw [turnOf, hI, Complex.arg_I, hdiv, Int.fract_eq_self]
    norm_num
  have hmul := turnOf_mul h (show (0 : Int) ≠ 0 ∨ (1 : Int) ≠ 0 by decide)
  simpa [hquarter] using hmul

/-- The digits are those of the angle: rounded down to `n` binary digits. -/
theorem turnDigits_eq_floor (n : Nat) {x y : Int} (h : x ≠ 0 ∨ y ≠ 0) :
    (turnDigits n x y : Int) = ⌊(2 : ℝ) ^ n * turnOf x y⌋ := by
  induction n generalizing x y with
  | zero =>
    have hzero : ⌊turnOf x y⌋ = 0 := Int.floor_fract _
    simp [turnDigits, hzero]
  | succ n ih =>
    have hdigit : ⌊2 * turnOf x y⌋ = if y < 0 ∨ (y = 0 ∧ x < 0) then 1 else 0 := by
      have h0 : 0 ≤ turnOf x y := Int.fract_nonneg _
      have h1 : turnOf x y < 1 := Int.fract_lt_one _
      have hhalf := turnOf_lt_half_iff x y
      rw [Int.floor_eq_iff]
      split
      next hlower =>
        have := not_lt.mp (mt hhalf.mp (not_not.mpr hlower))
        constructor <;> push_cast <;> linarith
      next hupper =>
        have := hhalf.mpr hupper
        constructor <;> push_cast <;> linarith
    have hsplit : (2 : ℝ) ^ (n + 1) * turnOf x y
        = 2 ^ n * Int.fract (2 * turnOf x y) + ((2 ^ n * ⌊2 * turnOf x y⌋ : Int) : ℝ) := by
      rw [Int.fract]
      push_cast
      ring
    rw [hsplit, Int.floor_add_intCast, ← turnOf_square h, ← ih (square_ne_zero h), hdigit, turnDigits]
    split <;> push_cast <;> ring

/-! #### The phase -/

theorem phaseOf_of_ne_zero {x y : Int} (h : x ≠ 0 ∨ y ≠ 0) :
    phaseOf x y = (turnDigits 11 x y + 1) / 2 % 1024 :=
  if_neg (by omega)

/-- 01 R9: the phase is the angle in 1024ths of a turn, rounded, mod 1024: eleven digits, of which the last
rounds. -/
theorem phaseOf_nearest {x y : Int} (h : x ≠ 0 ∨ y ≠ 0) :
    ∃ k : Int, |Complex.arg ⟨(x : ℝ), (y : ℝ)⟩ * 1024 / (2 * Real.pi) - (k : ℝ)| ≤ 1 / 2
      ∧ (phaseOf x y : Int) = k % 1024 := by
  have hfloor := turnDigits_eq_floor 11 h
  have hphase := phaseOf_of_ne_zero h
  generalize turnDigits 11 x y = d at hfloor hphase
  obtain ⟨hlow, hhigh⟩ := Int.floor_eq_iff.mp hfloor.symm
  obtain ⟨j, hj⟩ : ∃ j, j = (d + 1) / 2 := ⟨_, rfl⟩
  refine ⟨j + 1024 * ⌊Complex.arg ⟨x, y⟩ / (2 * Real.pi)⌋, ?_, by omega⟩
  have hturn : Complex.arg ⟨(x : ℝ), (y : ℝ)⟩ * 1024 / (2 * Real.pi)
      = 1024 * (turnOf x y + ⌊Complex.arg ⟨x, y⟩ / (2 * Real.pi)⌋) := by
    rw [turnOf, Int.fract_add_floor]
    ring
  have hjlow : (d : ℝ) ≤ 2 * j := by exact_mod_cast (by omega : d ≤ 2 * j)
  have hjhigh : (2 : ℝ) * j ≤ d + 1 := by exact_mod_cast (by omega : 2 * j ≤ d + 1)
  push_cast at hlow hhigh
  rw [hturn, abs_le]
  push_cast
  constructor <;> linarith

/-- A quarter turn of a point adds 256 to its phase. -/
theorem phaseOf_quarterTurn {x y : Int} (h : x ≠ 0 ∨ y ≠ 0) :
    phaseOf (-y) x = (phaseOf x y + 256) % 1024 := by
  have h' : -y ≠ 0 ∨ x ≠ 0 := by omega
  have hdigits : (turnDigits 11 (-y) x : Int) = turnDigits 11 x y + (512 - 2048 * ⌊turnOf x y + 1 / 4⌋) := by
    have hturn : (2 : ℝ) ^ 11 * Int.fract (turnOf x y + 1 / 4)
        = 2 ^ 11 * turnOf x y + ((512 - 2048 * ⌊turnOf x y + 1 / 4⌋ : Int) : ℝ) := by
      rw [Int.fract]
      push_cast
      ring
    rw [turnDigits_eq_floor 11 h', turnDigits_eq_floor 11 h, turnOf_quarterTurn h, hturn,
      Int.floor_add_intCast]
  rw [phaseOf_of_ne_zero h, phaseOf_of_ne_zero h']
  omega

/-- Settles O4: the square root rounded down, and the digits of the angle that squaring the point gives. -/
theorem amplitudeAndPhaseOfPoint : Obligations.AmplitudeAndPhaseOfPoint := by
  intro x y
  obtain ⟨hlow, hhigh⟩ := amplitudeOf_bounds x y
  exact ⟨hlow, hhigh, phaseOf_nearest, rfl⟩

end Sys2Proof.Machine
end

/-! ### Synthetic samples (01 R4, R5, R10) -/

section
namespace Sys2Proof.Machine

/-! #### The quarter wave and its rotations -/

/-- The table read forward and backward, with the angles: the synthetic pairs of the first quarter. -/
def quarterWave : List ((Nat × Nat) × Nat) := (quarterCosine.zip quarterCosine.reverse).zipIdx

/-- 01 R4, R5, R9: the phase of a pair is `a`, and the pair lies on the circle of radius 1600, up to
rounding. -/
abbrev onCircleAt (a : Nat) (c s : Int) : Prop :=
  phaseOf c s = a ∧ 1599 * 1599 ≤ c * c + s * s ∧ c * c + s * s < 1601 * 1601

theorem quarterWave_onCircle : ∀ q ∈ quarterWave, onCircleAt q.2 q.1.1 q.1.2 := by
  decide +kernel

theorem quarterCosine_length : quarterCosine.length = 257 := by
  decide +kernel

theorem mem_quarterWave {a : Nat} (h : a ≤ 256) :
    ((quarterCosine.getD a 0, quarterCosine.getD (256 - a) 0), a) ∈ quarterWave := by
  have hlen := quarterCosine_length
  have hrev : 257 - 1 - a = 256 - a := by omega
  rw [quarterWave, List.mem_zipIdx_iff_getElem?, List.getElem?_zip_eq_some,
    List.getElem?_reverse (by omega), hlen, hrev, List.getD_eq_getElem _ _ (by omega),
    List.getD_eq_getElem _ _ (by omega)]
  exact ⟨List.getElem?_eq_getElem _, List.getElem?_eq_getElem _⟩

theorem synthSin_of_le {a : Nat} (h : a ≤ 256) : synthSin a = quarterCosine.getD (256 - a) 0 := by
  rcases Nat.eq_zero_or_pos a with rfl | hpos
  · decide +kernel
  · rcases Nat.lt_or_eq_of_le h with hlt | rfl
    · have hindex : 1024 - (a + 768) = 256 - a := by omega
      rw [synthSin, Nat.mod_eq_of_lt (by omega), synthCos, if_neg (by omega), if_neg (by omega),
        if_neg (by omega), hindex]
    · rfl

theorem synthSin_add_quarter {a : Nat} (h : a < 768) : synthSin (a + 256) = synthCos a := by
  have hback : (a + 256 + 768) % 1024 = a := by omega
  rw [synthSin, hback]

/-- The cosine of the table turned by a half is its negative. -/
theorem synthCos_add_half {a : Nat} (h : a < 512) : synthCos (a + 512) = -synthCos a := by
  rcases Nat.eq_zero_or_pos a with rfl | hpos
  · rfl
  · unfold synthCos
    rw [if_neg (show ¬a + 512 ≤ 256 by omega), if_neg (show ¬a + 512 ≤ 512 by omega)]
    rcases Nat.lt_or_ge 256 a with hhigh | hlow
    · have hindex : 1024 - (a + 512) = 512 - a := by omega
      rw [if_neg (by omega), if_neg (by omega), if_pos (by omega), hindex, neg_neg]
    · rw [if_pos (by omega), if_pos hlow, Nat.add_sub_cancel]

theorem synthCos_add_quarter {a : Nat} (h : a < 768) : synthCos (a + 256) = -synthSin a := by
  rcases Nat.lt_or_ge a 256 with hlt | hge
  · rcases Nat.eq_zero_or_pos a with rfl | hpos
    · decide +kernel
    · have hindex : 512 - (a + 256) = 256 - a := by omega
      rw [synthSin_of_le hlt.le, synthCos, if_neg (by omega), if_pos (by omega), hindex]
  · obtain ⟨b, rfl⟩ := Nat.exists_eq_add_of_le' hge
    rw [synthSin_add_quarter (by omega), ← synthCos_add_half (by omega)]

/-- 01 R4, R9: every synthetic pair lies on the circle at its angle: the first quarter by its table, each
further one by a quarter turn. -/
theorem synth_onCircle {a : Nat} (h : a < 1024) : onCircleAt a (synthCos a) (synthSin a) := by
  induction a using Nat.strong_induction_on with
  | h a ih =>
    rcases Nat.lt_or_ge a 256 with hlt | hge
    · have hcos : synthCos a = quarterCosine.getD a 0 := if_pos hlt.le
      rw [hcos, synthSin_of_le hlt.le]
      exact quarterWave_onCircle _ (mem_quarterWave hlt.le)
    · obtain ⟨b, rfl⟩ := Nat.exists_eq_add_of_le' hge
      obtain ⟨hphase, hlow, hhigh⟩ := ih b (by omega) (by omega)
      have hne : synthCos b ≠ 0 ∨ synthSin b ≠ 0 := by
        by_contra! hzero
        rw [hzero.1, hzero.2] at hlow
        omega
      rw [synthCos_add_quarter (by omega), synthSin_add_quarter (by omega), onCircleAt,
        phaseOf_quarterTurn hne, hphase, neg_mul_neg]
      omega

/-! #### Under the nominal set -/

theorem correct_nominal (c s : Int) : correct ⟨0, 0, 32768, 0⟩ c s = (c, s) := by
  simp only [correct, roundDiv, sub_zero, mul_zero, Prod.mk.injEq, true_and]
  split <;> omega

theorem amplitudeOf_onCircle {a : Nat} {c s : Int} (h : onCircleAt a c s) :
    amplitudeOf c s = 1599 ∨ amplitudeOf c s = 1600 := by
  obtain ⟨-, hlow, hhigh⟩ := h
  obtain ⟨hamp, hamp'⟩ := amplitudeOf_bounds c s
  have hge : (1599 : Int) ≤ amplitudeOf c s := by nlinarith
  have hle : (amplitudeOf c s : Int) < 1601 := by nlinarith
  omega

/-- A synthetic code is never at an end of the code range. -/
theorem isClipped_synth (a : Nat) : isClipped (synthCos a) (synthSin a) = false := by
  have hc := synthCos_mem a
  have hs := synthCos_mem ((a + 768) % 1024)
  rw [← synthSin] at hs
  simp only [isClipped, Bool.or_eq_false_iff, beq_eq_false_iff_ne]
  omega

/-- Settles O5: the nominal set leaves the pair as it is, and the pair lies on the circle at its angle. -/
theorem syntheticSamplePhase : Obligations.SyntheticSamplePhase := by
  intro a ha
  have hcircle := synth_onCircle (Nat.lt_succ_of_le ha)
  have hphase := hcircle.1
  simp only [pairPhase, pairAmplitude, correct_nominal, applySense, hphase, true_and]
  exact ⟨amplitudeOf_onCircle hcircle, isClipped_synth a⟩

end Sys2Proof.Machine
end

/-! ### What a front end makes of a pair (01 R3 to R11) -/

section
namespace Sys2Proof.Machine

/-! #### Ranges -/

/-- 01 R7: for codes and a set in range the corrected point lies in −4095..4095 by −9214..9214. -/
theorem correct_mem {e : EllipseSet} {c s : Int} (he : e.inRange) (hc : isCode c) (hs : isCode s) :
    (-4095 ≤ (correct e c s).1 ∧ (correct e c s).1 ≤ 4095)
      ∧ (-9214 ≤ (correct e c s).2 ∧ (correct e c s).2 ≤ 9214) := by
  obtain ⟨⟨hoc, hoc'⟩, ⟨hos, hos'⟩, ⟨hg, hg'⟩, hσ, hσ'⟩ := he
  obtain ⟨hc, hc'⟩ := hc
  obtain ⟨hs, hs'⟩ := hs
  have hu : |c - e.offsetC| ≤ 4095 := abs_le.mpr (by omega)
  have hv : |s - e.offsetS| ≤ 4095 := abs_le.mpr (by omega)
  have hgain : |(s - e.offsetS) * e.g| ≤ 4095 * 65535 := by
    rw [abs_mul]
    exact mul_le_mul hv (abs_le.mpr (by omega)) (abs_nonneg _) (by decide)
  have hskew : |(c - e.offsetC) * e.sigma| ≤ 4095 * 8192 := by
    rw [abs_mul]
    exact mul_le_mul hu (abs_le.mpr (by omega)) (abs_nonneg _) (by decide)
  have hround := (roundDiv_nearest ((s - e.offsetS) * e.g - (c - e.offsetC) * e.sigma)
    (show (0 : Int) < 32768 by decide)).1
  rw [abs_le] at hgain hskew
  dsimp only [correct]
  omega

theorem amplitudeOf_le {x y : Int} (hx : -4095 ≤ x ∧ x ≤ 4095) (hy : -9214 ≤ y ∧ y ≤ 9214) :
    amplitudeOf x y ≤ 10082 := by
  have hlow := (amplitudeOf_bounds x y).1
  have hx2 : x * x ≤ 4095 * 4095 := by nlinarith
  have hy2 : y * y ≤ 9214 * 9214 := by nlinarith
  by_contra! hamp
  have hamp' : (10083 : Int) ≤ amplitudeOf x y := by exact_mod_cast hamp
  nlinarith

/-- 01 R5: the clipped mark is set exactly at the ends of the code range. -/
theorem isClipped_iff (c s : Int) :
    isClipped c s = true ↔ c = -2048 ∨ c = 2047 ∨ s = -2048 ∨ s = 2047 := by
  simp [isClipped, or_assoc]

/-! #### One pair -/

theorem FrontEnd.workingPair_of_source {f : FrontEnd} {p : Pair} {c s : Int}
    (h : f.source = .detector ∧ c = p.c.toInt ∧ s = p.s.toInt
      ∨ f.source = .synthetic ∧ c = synthCos f.synthAngle ∧ s = synthSin f.synthAngle) :
    f.workingPair p = (c, s) := by
  unfold workingPair
  rcases h with ⟨hsource, hc, hs⟩ | ⟨hsource, hc, hs⟩ <;> rw [hsource, hc, hs]

/-- 01 R4: the angle advances in SYNTHETIC only. -/
theorem FrontEnd.nextAngle_eq (f : FrontEnd) :
    f.nextAngle = if f.source = .synthetic then (((f.synthAngle : Int) + f.synthStep) % 1024).toNat
      else f.synthAngle := by
  unfold nextAngle
  split
  next h => rw [h]; rfl
  next h => rw [h]; rfl

/-- 01 R4, R5, R11: an enabled front end after its working pair. -/
theorem FrontEnd.arrive_eq {f : FrontEnd} {p : Pair} {c s : Int} (h : f.workingPair p = (c, s)) :
    f.arrive p =
      { f with
        synthAngle := f.nextAngle
        clipCount := if isClipped c s then satInc Config.top32 f.clipCount else f.clipCount
        phase := pairPhase f.params f.sense c s
        amplitude := pairAmplitude f.params c s
        clipped := isClipped c s } := by
  rw [arrive, h]

/-- 01 R3: an OFF channel takes no part in an arrival. -/
theorem ChannelUnit.arrive_of_off {u : ChannelUnit} (h : u.counter.state = .off) (p : Pair) :
    u.arrive p = ⟨u, none, false, false⟩ := by
  rw [arrive, h]

/-- 01 R11, 02 R18: an enabled channel's counter takes the phase and amplitude of its front end, and the
working pair is handed on. -/
theorem ChannelUnit.arrive_of_on {u : ChannelUnit} (h : u.counter.state ≠ .off) (p : Pair) :
    u.arrive p =
      ⟨⟨u.front.arrive p,
          (u.counter.arrive (u.front.arrive p).phase (u.front.arrive p).amplitude).counter⟩,
        some ⟨(u.front.workingPair p).1, (u.front.workingPair p).2, (u.front.arrive p).clipped,
          (u.counter.arrive (u.front.arrive p).phase (u.front.arrive p).amplitude).step⟩,
        (u.counter.arrive (u.front.arrive p).phase (u.front.arrive p).amplitude).lost,
        (u.counter.arrive (u.front.arrive p).phase (u.front.arrive p).amplitude).trim⟩ := by
  unfold arrive
  split
  · exact absurd ‹_› h
  all_goals rfl

/-- Settles O6: ranges, the corrected point, the front end after its pair, and the channel around it. -/
theorem frontEndResultsInRange : Obligations.FrontEndResultsInRange := by
  refine ⟨fun e sense c s he hc hs => ?_, ?_, fun f p c s clip hpair hclip => ?_, fun u p hoff => ?_⟩
  · have ⟨hx, hy⟩ := correct_mem he hc hs
    exact ⟨pairPhase_le e sense c s, amplitudeOf_le hx hy, hy, isClipped_iff c s⟩
  · rintro e c s x y rfl rfl
    refine ⟨rfl, rfl, rfl, rfl, ?_⟩
    have hround := (roundDiv_nearest ((s - e.offsetS) * e.g - (c - e.offsetC) * e.sigma)
      (show (0 : Int) < 32768 by decide)).1
    omega
  · have hworking := FrontEnd.workingPair_of_source hpair
    have hmark : isClipped c s = clip := by
      rw [hclip, Bool.eq_iff_iff, isClipped_iff, decide_eq_true_iff]
    have hfront := FrontEnd.arrive_eq hworking
    have hcount : (if clip = true then satInc Config.top32 f.clipCount else f.clipCount)
        = if clip = true ∧ f.clipCount < 4294967295 then f.clipCount + 1 else f.clipCount := by
      cases clip
      · rfl
      · simp only [if_true, true_and]
        rfl
    rw [hmark, hcount, f.nextAngle_eq] at hfront
    refine ⟨hfront, ?_⟩
    rintro u rfl hon
    rw [ChannelUnit.arrive_of_on hon, hworking]
    refine ⟨rfl, rfl, ?_⟩
    rw [congrArg FrontEnd.clipped hfront]
  · rw [ChannelUnit.arrive_of_off hoff]
    exact ⟨rfl, rfl⟩

end Sys2Proof.Machine
end

/-! ### Restarts (09 section 9.7 and each block's rule) -/

section
namespace Sys2Proof.Machine

/-! #### The fit unit (03 R57) -/

section
variable (s : State) (ch : Channel)

theorem State.putFitResult_result (r : FitResult) (c : Channel) :
    (s.putFitResult ch r).fit.result.get c = if c = ch then some r else s.fit.result.get c :=
  PerChannel.get_set _ _ _ _

theorem State.restartPendingReset_timeoutMs : (s.restartPendingReset ch).fit.timeoutMs = s.fit.timeoutMs := by
  unfold State.restartPendingReset
  split <;> rfl

variable {s ch}

theorem State.restartPendingReset_of_clear (h : s.fit.pendingReset.get ch = false) :
    s.restartPendingReset ch = s := by
  simp [State.restartPendingReset, h]

/-- A pending reset is recorded ABANDONED_RESTART and cleared. -/
theorem State.restartPendingReset_of_pending (h : s.fit.pendingReset.get ch = true) :
    (∃ q, (s.restartPendingReset ch).fit.result.get ch = some q ∧ q.outcome = .abandonedRestart)
      ∧ (s.restartPendingReset ch).fit.pendingReset.get ch = false := by
  rw [State.restartPendingReset, if_pos h]
  exact ⟨⟨_, (PerChannel.get_set _ _ _ _).trans (if_pos rfl), rfl⟩,
    (PerChannel.get_set _ _ _ _).trans (if_pos rfl)⟩

theorem State.restartPendingReset_of_ne {c : Channel} (h : c ≠ ch) :
    (s.restartPendingReset ch).fit.result.get c = s.fit.result.get c
      ∧ (s.restartPendingReset ch).fit.pendingReset.get c = s.fit.pendingReset.get c := by
  unfold State.restartPendingReset
  split
  · exact ⟨(PerChannel.get_set _ _ _ _).trans (if_neg h), (PerChannel.get_set _ _ _ _).trans (if_neg h)⟩
  · exact ⟨rfl, rfl⟩

end

section
variable {s : State} {c : Channel}

theorem State.restartPendingResets_timeoutMs (l : List Channel) :
    (l.foldl State.restartPendingReset s).fit.timeoutMs = s.fit.timeoutMs := by
  induction l generalizing s with
  | nil => rfl
  | cons ch l ih => rw [List.foldl_cons, ih, State.restartPendingReset_timeoutMs]

/-- A channel without a pending reset keeps its record. -/
theorem State.restartPendingResets_of_clear (l : List Channel) (h : s.fit.pendingReset.get c = false) :
    (l.foldl State.restartPendingReset s).fit.result.get c = s.fit.result.get c
      ∧ (l.foldl State.restartPendingReset s).fit.pendingReset.get c = false := by
  induction l generalizing s with
  | nil => exact ⟨rfl, h⟩
  | cons ch l ih =>
    rw [List.foldl_cons]
    rcases eq_or_ne c ch with rfl | hne
    · rw [State.restartPendingReset_of_clear h]
      exact ih h
    · obtain ⟨hresult, hpending⟩ := State.restartPendingReset_of_ne (s := s) hne
      rw [← hresult]
      exact ih (hpending.trans h)

/-- A channel of the list with a pending reset is recorded ABANDONED_RESTART and cleared. -/
theorem State.restartPendingResets_of_pending {l : List Channel} (hc : c ∈ l)
    (h : s.fit.pendingReset.get c = true) :
    (∃ q, (l.foldl State.restartPendingReset s).fit.result.get c = some q
        ∧ q.outcome = .abandonedRestart)
      ∧ (l.foldl State.restartPendingReset s).fit.pendingReset.get c = false := by
  induction l generalizing s with
  | nil => cases hc
  | cons ch l ih =>
    rw [List.foldl_cons]
    rcases eq_or_ne c ch with rfl | hne
    · obtain ⟨⟨q, hq, hout⟩, hclear⟩ := State.restartPendingReset_of_pending h
      obtain ⟨hkept, hclear'⟩ := State.restartPendingResets_of_clear l hclear
      exact ⟨⟨q, hkept.trans hq, hout⟩, hclear'⟩
    · have hpending := (State.restartPendingReset_of_ne (s := s) hne).2
      exact ih (List.mem_of_ne_of_mem hne hc) (hpending.trans h)

end

theorem mem_allChannels (ch : Channel) : ch ∈ allChannels := by
  cases ch <;> decide

/-- The working fit of a part that restarts, recorded ABANDONED_RESTART. -/
def State.recordWorking (s : State) : State :=
  match s.fit.working with
  | none => s
  | some r => s.putFitResult r.channel (s.workingRecord r .abandonedRestart)

theorem State.recordWorking_of_mem {s : State} {r : FitRequest} (h : s.fit.working = some r) :
    ∃ q, s.recordWorking.fit.result.get r.channel = some q ∧ q.outcome = .abandonedRestart := by
  rw [State.recordWorking, h]
  exact ⟨_, (State.putFitResult_result _ _ _ _).trans (if_pos rfl), rfl⟩

theorem State.recordWorking_of_ne {s : State} {ch : Channel}
    (h : ∀ r, s.fit.working = some r → r.channel ≠ ch) :
    s.recordWorking.fit.result.get ch = s.fit.result.get ch := by
  unfold State.recordWorking
  split
  · rfl
  · next r hr => exact (State.putFitResult_result _ _ _ _).trans (if_neg (h r hr).symm)

theorem State.recordWorking_frame (s : State) :
    s.recordWorking.fit.pendingReset = s.fit.pendingReset
      ∧ s.recordWorking.fit.timeoutMs = s.fit.timeoutMs := by
  unfold State.recordWorking
  split <;> exact ⟨rfl, rfl⟩

theorem State.fitRestart_fit (s : State) :
    s.fitRestart.fit =
      { (allChannels.foldl State.restartPendingReset s.recordWorking).fit.emptySlot with queue := [] } := by
  unfold State.fitRestart State.recordWorking
  rfl

section
variable (s : State) {ch : Channel}

theorem State.fitRestart_pendingReset : s.fitRestart.fit.pendingReset.get ch = false := by
  rw [State.fitRestart_fit]
  cases h : s.recordWorking.fit.pendingReset.get ch with
  | false => exact (State.restartPendingResets_of_clear allChannels h).2
  | true => exact (State.restartPendingResets_of_pending (mem_allChannels ch) h).2

theorem State.fitRestart_timeoutMs : s.fitRestart.fit.timeoutMs = s.fit.timeoutMs := by
  rw [State.fitRestart_fit]
  exact (State.restartPendingResets_timeoutMs allChannels).trans s.recordWorking_frame.2

variable {s}

/-- 03 R57: a request in the slot and a pending reset are recorded ABANDONED_RESTART. -/
theorem State.fitRestart_result_of_claim
    (h : (∃ r, s.fit.working = some r ∧ r.channel = ch) ∨ s.fit.pendingReset.get ch = true) :
    ∃ q, s.fitRestart.fit.result.get ch = some q ∧ q.outcome = .abandonedRestart := by
  rw [State.fitRestart_fit]
  have hframe := s.recordWorking_frame.1
  cases hp : s.fit.pendingReset.get ch with
  | true => exact (State.restartPendingResets_of_pending (mem_allChannels ch) (hframe ▸ hp)).1
  | false =>
    obtain ⟨r, hr, rfl⟩ := h.resolve_right (by simp [hp])
    obtain ⟨q, hq, hout⟩ := State.recordWorking_of_mem hr
    exact ⟨q, (State.restartPendingResets_of_clear allChannels (hframe ▸ hp)).1.trans hq, hout⟩

theorem State.fitRestart_result_of_no_claim (hw : ∀ r, s.fit.working = some r → r.channel ≠ ch)
    (hp : s.fit.pendingReset.get ch = false) :
    s.fitRestart.fit.result.get ch = s.fit.result.get ch := by
  rw [State.fitRestart_fit]
  have hframe := s.recordWorking_frame.1
  exact (State.restartPendingResets_of_clear allChannels (hframe ▸ hp)).1.trans
    (State.recordWorking_of_ne hw)

end

/-! #### The other blocks -/

theorem Counter.restart_of_off {c : Counter} (h : c.state = .off) : c.restart = c := by
  rw [restart, h]

theorem Counter.restart_of_on {c : Counter} (h : c.state ≠ .off) :
    c.restart =
      { c with
        state := .dark, p := 0, lastPhase := 0, lastStep := 0, acquireRun := 0, coastRun := 0
        trimTravel := 0, epoch := c.epoch + 1 } := by
  unfold restart
  split
  · exact absurd ‹_› h
  all_goals rfl

theorem State.restartChannels_chan (s : State) (ch : Channel) :
    s.restartChannels.chan ch = (s.chan ch).restart := by
  cases ch <;> rfl

/-- 06 R115. -/
theorem LineRecord.restart_eq (r : LineRecord) :
    r.restart = if r.state = .taken ∨ r.state = .missed ∨ r.state = .primed then
        { r with state := .armed, pending := none }
      else { r with pending := none } := by
  unfold restart
  split <;> simp [*]

theorem State.newestIndex_of_some {s : State} {k : Nat} (h : s.newest = some k) : s.newestIndex = k := by
  rw [State.newestIndex, h]
  rfl

/-- 10 R176: RESTARTED alone. -/
theorem Event.mem_restarted_single (e : Event) : e.mem Event.restarted.single = true ↔ e = .restarted := by
  cases e <;> decide

/-- 09 R166. -/
theorem stationOf_spec (straps : Nat) :
    (1 ≤ straps ∧ straps ≤ 254 → stationOf straps = some (BitVec.ofNat 8 straps))
      ∧ (straps = 0 ∨ straps = 255 → stationOf straps = none) :=
  ⟨fun h => if_pos h, fun h => if_neg (by omega)⟩

/-- 09 section 9.7: what a restart does is what every block's rule says. -/
theorem State.restartedFrom_restartAll (s : State) (straps : Nat) :
    s.RestartedFrom (s.restartAll straps) straps := by
  rw [State.restartAll_eq]
  refine ⟨rfl, fun ch => ?_, fun ch h => ?_, fun ch h => ?_,
    ⟨by rw [State.fitRestart_fit]; rfl, by rw [State.fitRestart_fit], fun ch => s.fitRestart_pendingReset,
      s.fitRestart_timeoutMs, by rw [State.fitRestart_fit]; rfl, by rw [State.fitRestart_fit]; rfl⟩,
    fun ch => State.fitRestart_result_of_claim, fun ch => State.fitRestart_result_of_no_claim,
    rfl, rfl, rfl, ?_, ⟨rfl, rfl, rfl, rfl, rfl, rfl, rfl, rfl⟩, fun h => ?_, fun c k hc hk => ?_, rfl,
    fun h => ?_, fun w k hw hk => ?_, ⟨rfl, rfl, rfl, rfl, rfl, rfl, rfl, stationOf_spec straps⟩, rfl,
    Event.mem_restarted_single, rfl⟩
  · exact congrArg ChannelUnit.front (s.restartChannels_chan ch)
  · exact (congrArg ChannelUnit.counter (s.restartChannels_chan ch)).trans (Counter.restart_of_off h)
  · exact (congrArg ChannelUnit.counter (s.restartChannels_chan ch)).trans (Counter.restart_of_on h)
  · exact List.map_congr_left fun r _ => r.restart_eq
  · simp [PassUnit.restarted, h]
  · simp [PassUnit.restarted, PassContext.summary, hc, State.newestIndex_of_some hk]
  · simp [RerefUnit.restarted, h]
  · simp [RerefUnit.restarted, hw, State.newestIndex_of_some hk]

/-! #### The line and the request -/

/-- Settles O35: a transition, or a due end of a RESTART's reply, is `restartAll`; anything else is not. -/
theorem restartReachesEveryBlock : Obligations.RestartReachesEveryBlock := by
  intro straps s
  refine ⟨fun q hline => ?_, fun q => ?_, fun q hline => ?_, fun q hbaud hdue => ?_, fun hdue => ?_⟩
  · refine ⟨(s.restartAll straps).withRestartLine true, ?_, s.restartedFrom_restartAll straps, rfl⟩
    simp [exec, execRestartLine, s.settle_of_quiet q, hline]
  · simp [exec, execRestartLine, s.settle_of_quiet q]
  · simp only [exec, execRestartLine, s.settle_of_quiet q, hline, Bool.not_true, Bool.and_false,
      Bool.false_eq_true, if_false]
    rw [← hline]
    rfl
  · refine ⟨s.restartAll straps, ?_, s.restartedFrom_restartAll straps, by rw [State.restartAll_eq]; rfl⟩
    simp [exec, execRestartTaken, hdue, s.settleArrival_of_quiet q, State.takeBaud, hbaud,
      State.takeRestart]
  · simp [exec, execRestartTaken, hdue]

end Sys2Proof.Machine
end

/-! ### A sample arrival (01 R2, R3, 02 R27, R28, 03 R41, 04 R59 to R67, 10 R169) -/

section
namespace Sys2Proof.Machine

/-! #### Trim requests (03 R39, R41) -/

theorem eraseDups_filter {α : Type} [DecidableEq α] (p : α → Bool) (l : List α) :
    (l.filter p).eraseDups = l.eraseDups.filter p := by
  induction hn : l.length using Nat.strong_induction_on generalizing l with
  | h n ih =>
    cases l with
    | nil => rfl
    | cons a l =>
      have hshort := ih _ (by
        rw [← hn]
        exact Nat.lt_succ_of_le (List.length_filter_le (fun b => !b == a) l)) _ rfl
      rw [List.eraseDups_cons, List.filter_cons, List.filter_cons, ← hshort, List.filter_filter]
      split
      next => simp only [List.eraseDups_cons, List.filter_filter, Bool.and_comm]
      next ha =>
        congr 1
        refine List.filter_congr fun b _ => ?_
        by_cases hb : b = a <;> simp [hb, ha]

/-- The channel's trim request joins the fit unit, or is dropped where the channel has a request. -/
def FitUnit.takeTrim (f : FitUnit) (ch : Channel) : FitUnit :=
  if f.holds ch then f else f.submit ⟨ch, .short, .trim⟩

/-- Requests that enter the fit unit one after the other: the first takes an empty slot. -/
def FitUnit.submitAll (f : FitUnit) (new : List FitRequest) : FitUnit :=
  match f.working with
  | none => { f with working := new.head?, queue := f.queue ++ new.tail }
  | some _ => { f with queue := f.queue ++ new }

namespace FitUnit

variable (f : FitUnit)

theorem holds_iff_mem_claims (ch : Channel) : f.holds ch = true ↔ ch ∈ f.claims := by
  unfold holds claims
  cases f.working <;> simp [mem_allChannels, or_assoc, eq_comm (a := ch)]

theorem holds_submit (r : FitRequest) (ch : Channel) :
    (f.submit r).holds ch = (f.holds ch || ch == r.channel) := by
  rw [BEq.comm (a := ch)]
  unfold submit
  split
  next h =>
    simp only [holds, h, Bool.false_or]
    ac_rfl
  next h =>
    simp only [holds, h, List.any_append, List.any_cons, List.any_nil, Bool.or_false]
    ac_rfl

theorem submitAll_nil : f.submitAll [] = f := by
  unfold submitAll
  split
  next h => simp [← h]
  next => simp

theorem submitAll_cons (r : FitRequest) (new : List FitRequest) :
    f.submitAll (r :: new) = (f.submit r).submitAll new := by
  unfold submit submitAll
  split <;> simp [*]

/-- The trim requests of a list: each channel's first, where the channel has none, in the list's order. -/
theorem foldl_takeTrim (l : List Channel) :
    l.foldl takeTrim f
      = f.submitAll ((l.eraseDups.filter (fun ch => !f.holds ch)).map (⟨·, .short, .trim⟩)) := by
  induction l generalizing f with
  | nil => exact f.submitAll_nil.symm
  | cons ch l ih =>
    rw [List.foldl_cons, ih, List.eraseDups_cons, List.filter_cons, ← eraseDups_filter, ← eraseDups_filter,
      List.filter_filter, takeTrim]
    cases hch : f.holds ch with
    | true =>
      simp only [if_true, Bool.not_true, Bool.false_eq_true, if_false]
      congr 3
      refine List.filter_congr fun c _ => ?_
      by_cases hc : c = ch <;> simp [hc, hch]
    | false =>
      simp only [if_false, Bool.not_false, if_true, Bool.false_eq_true, List.map_cons, submitAll_cons,
        holds_submit, Bool.not_or]

end FitUnit

theorem State.foldl_trimRequest (s : State) (l : List Channel) :
    l.foldl State.trimRequest s = s.withFit (l.foldl FitUnit.takeTrim s.fit) := by
  induction l generalizing s with
  | nil => rfl
  | cons ch l ih =>
    have hone : s.trimRequest ch = s.withFit (s.fit.takeTrim ch) := by
      unfold State.trimRequest FitUnit.takeTrim
      split <;> rfl
    rw [List.foldl_cons, ih, hone]
    rfl

/-- 03 R41: the trim requests of an arrival that join the fit unit, in the order given. -/
def FitUnit.trimsOf (f : FitUnit) (order : List Channel) (r : PerChannel ChannelArrival) :
    List FitRequest :=
  ((order ++ allChannels).eraseDups.filter
    (fun ch => (r.get ch).trim && !decide (ch ∈ f.claims))).map (⟨·, .short, .trim⟩)

theorem State.trimRequests_eq (s : State) (order : List Channel) (r : PerChannel ChannelArrival) :
    s.trimRequests order r = s.withFit (s.fit.submitAll (s.fit.trimsOf order r)) := by
  have hclaims (ch : Channel) : s.fit.holds ch = decide (ch ∈ s.fit.claims) :=
    Bool.eq_iff_iff.mpr ((s.fit.holds_iff_mem_claims ch).trans decide_eq_true_iff.symm)
  rw [State.trimRequests, State.foldl_trimRequest, FitUnit.foldl_takeTrim, eraseDups_filter,
    List.filter_filter, FitUnit.trimsOf]
  simp only [hclaims, Bool.and_comm]

/-! #### Sticky events (10 R173) -/

theorem Event.mem_add (S : EventSet) (e e' : Event) :
    e'.mem (S.add e) = (e'.mem S || decide (e = e')) := by
  have hlt : e.index < 12 := by cases e <;> decide
  have hinj : e.index = e'.index ↔ e = e' := by
    constructor
    · cases e <;> cases e' <;> simp [Event.index]
    · exact congrArg _
  simp only [Event.mem, EventSet.add, Event.single, BitVec.getLsbD_or, BitVec.getLsbD_twoPow, hlt, hinj,
    decide_true, Bool.true_and]

theorem State.mem_raise (s : State) (e e' : Event) :
    e'.mem (s.raise e).status.sticky = (e'.mem s.status.sticky || decide (e = e')) :=
  Event.mem_add _ e e'

theorem State.mem_raiseIf (s : State) (b : Bool) (e e' : Event) :
    e'.mem (s.raiseIf b e).status.sticky = (e'.mem s.status.sticky || (b && decide (e = e'))) := by
  cases b with
  | false => simp [State.raiseIf]
  | true => exact s.mem_raise e e'

/-- Raising one event leaves every other as it was. -/
theorem State.mem_raise_of_ne (s : State) {e e' : Event} (h : e' ≠ e) :
    e'.mem (s.raise e).status.sticky = e'.mem s.status.sticky := by
  rw [State.mem_raise, decide_eq_false h.symm, Bool.or_false]

/-- 02 R27: the LOST events of an arrival, raised one channel after the other. -/
theorem State.raiseLost_eq (s : State) (r : PerChannel ChannelArrival) (l : List Channel) :
    ∃ u, l.foldl (fun t ch => t.raiseIf (r.get ch).lost (lostEvent ch)) s = { s with status := u }
      ∧ ∀ e : Event, e.mem u.sticky
        = (e.mem s.status.sticky || l.any (fun ch => (r.get ch).lost && decide (lostEvent ch = e))) := by
  induction l generalizing s with
  | nil => exact ⟨s.status, rfl, fun e => by simp⟩
  | cons ch l ih =>
    obtain ⟨u, hu, hmem⟩ := ih (s.raiseIf (r.get ch).lost (lostEvent ch))
    obtain ⟨_, hone⟩ := s.raiseIf_shape (r.get ch).lost (lostEvent ch)
    refine ⟨u, by rw [List.foldl_cons, hu, hone], fun e => ?_⟩
    rw [hmem, State.mem_raiseIf, List.any_cons, Bool.or_assoc]

theorem any_lost (r : PerChannel ChannelArrival) (ch : Channel) :
    allChannels.any (fun c => (r.get c).lost && decide (lostEvent c = lostEvent ch)) = (r.get ch).lost := by
  cases ch <;> simp [allChannels, lostEvent]

theorem any_lost_of_ne (r : PerChannel ChannelArrival) {e : Event} (h : ∀ ch, lostEvent ch ≠ e) :
    allChannels.any (fun c => (r.get c).lost && decide (lostEvent c = e)) = false := by
  simp [h]

/-! #### The sample and the fit unit -/

/-- 01 R2, R3, 02 R27, 04 R59: the sample taken: index, channels, tracker values and LOST events. -/
theorem State.takeSample_eq (s : State) (k : Nat) (r : PerChannel ChannelArrival) :
    ∃ u v, s.takeSample k r
        = { s with newest := some k, channels := r.map ChannelArrival.unit, status := u, arrival := v }
      ∧ v.tracker = r.t.unit.counter.trackerValues
      ∧ ∀ e : Event, e.mem u.sticky = (e.mem s.status.sticky
          || allChannels.any (fun ch => (r.get ch).lost && decide (lostEvent ch = e))) := by
  obtain ⟨u, hu, hmem⟩ := State.raiseLost_eq
    (((s.withNewest (some k)).withChannels (r.map ChannelArrival.unit)).withArrival
      { Arrival.idle with
        samples := r.map ChannelArrival.sample, tracker := r.t.unit.counter.trackerValues })
    r allChannels
  exact ⟨u, _, hu, rfl, hmem⟩

/-- A begun fit that observes a sample keeps the queue and the tracker values, and raises FIT_DONE alone. -/
theorem State.fitObserve_keeps (s : State) :
    s.fitObserve.fit.queue = s.fit.queue ∧ s.fitObserve.arrival.tracker = s.arrival.tracker
      ∧ ∀ e : Event, e ≠ .fitDone → e.mem s.fitObserve.status.sticky = e.mem s.status.sticky := by
  have hend (r : FitRequest) : (s.endWorking r .abandonedSignal).fit.queue = s.fit.queue
      ∧ (s.endWorking r .abandonedSignal).arrival.tracker = s.arrival.tracker
      ∧ ∀ e : Event, e ≠ .fitDone →
        e.mem (s.endWorking r .abandonedSignal).status.sticky = e.mem s.status.sticky :=
    ⟨rfl, rfl, fun e he => State.mem_raise_of_ne _ he⟩
  unfold State.fitObserve
  dsimp only
  split
  · exact ⟨rfl, rfl, fun _ _ => rfl⟩
  · split
    · exact ⟨rfl, rfl, fun _ _ => rfl⟩
    · split
      iterate 2 exact hend _
      all_goals split <;> exact ⟨rfl, rfl, fun _ _ => rfl⟩

/-- 03 R41: the fit unit at an arrival takes the trim requests; a fit that has not begun observes nothing. -/
theorem State.fitArrive_eq (s : State) (order : List Channel) (r : PerChannel ChannelArrival) :
    ∃ f u v, s.fitArrive order r = { s with fit := f, status := u, arrival := v }
      ∧ f.queue = (s.fit.submitAll (s.fit.trimsOf order r)).queue
      ∧ (s.fit.timer = none → f = s.fit.submitAll (s.fit.trimsOf order r))
      ∧ v.tracker = s.arrival.tracker
      ∧ ∀ e : Event, e ≠ .fitDone → e.mem u.sticky = e.mem s.status.sticky := by
  dsimp only [State.fitArrive]
  rw [State.trimRequests_eq]
  split
  next hbegun =>
    generalize hw : State.withFit _ (FitUnit.submitAll _ _) = w
    obtain ⟨f, u, v, he⟩ := w.fitObserve_shape
    obtain ⟨hqueue, htracker, hmem⟩ := w.fitObserve_keeps
    rw [he] at hqueue htracker hmem
    subst hw
    exact ⟨f, u, v, he, hqueue, fun hnone => by simp [hnone] at hbegun, htracker, hmem⟩
  next => exact ⟨_, _, _, rfl, rfl, fun _ => rfl, rfl, fun _ _ => rfl⟩

/-! #### The compensation unit (04 R61, R66, R67) -/

theorem State.dropSnapshot_eq (s : State) :
    s.dropSnapshot = s.withAir
      { s.air with
        snapshot := s.air.snapshot.filter (fun n => n.epoch == (s.chan .t).counter.epoch) } := by
  unfold State.dropSnapshot
  split
  next h => simp only [h, Option.filter_none]; rw [← h]; rfl
  next n h =>
    simp only [h, Option.filter_some]
    split
    next he => simp only [he, BEq.rfl, if_true]; rw [← h]; rfl
    next he => simp only [beq_eq_false_iff_ne.mpr (Ne.symm he), Bool.false_eq_true, if_false]

theorem trackerCounting_iff (st : ChannelState) :
    trackerCounting st = true ↔ st ≠ .off ∧ st ≠ .dark := by
  cases st <;> decide

/-- 04 R60, R67: the tracker term is usable and lies beyond the drift limit. -/
theorem State.driftNow_iff (s : State) :
    s.driftNow = true ↔ ∃ n, s.air.snapshot = some n
      ∧ n.epoch = (s.chan .t).counter.epoch ∧ (s.chan .t).counter.state ≠ .off
      ∧ (s.chan .t).counter.state ≠ .dark ∧ s.air.tPath ≠ 0
      ∧ s.air.driftLimit
        < (roundDiv (((s.chan .t).counter.p - n.tSnap) * 1000000000) s.air.tPath).natAbs := by
  unfold State.driftNow State.trackerTerm
  cases s.air.snapshot with
  | none => simp
  | some n =>
    dsimp only
    simp only [Option.some.injEq, exists_eq_left', trackerCounting_iff, eq_comm (b := n.epoch)]
    split_ifs with husable
    · simp [husable]
    · simp only [false_iff]
      exact fun h => husable ⟨h.1, ⟨h.2.1, h.2.2.1⟩, h.2.2.2.1⟩

/-- Dropping a snapshot of another epoch does not change the drift condition. -/
theorem State.driftNow_dropSnapshot (s : State) : s.dropSnapshot.driftNow = s.driftNow := by
  rw [Bool.eq_iff_iff, State.driftNow_iff, State.driftNow_iff, State.dropSnapshot_eq]
  refine exists_congr fun n => ?_
  have hchan (a : AirUnit) : (s.withAir a).chan .t = s.chan .t := rfl
  simp only [hchan, State.withAir_air, Option.filter_eq_some_iff, beq_iff_eq, and_assoc]
  tauto

/-- 04 R66: the samples toward the next millisecond after one more. -/
def AirUnit.nextSamples (a : AirUnit) : Nat :=
  if a.ageTop ≤ a.ageMs then a.ageSamples
  else if Config.samplesPerMs ≤ a.ageSamples + 1 then 0 else a.ageSamples + 1

theorem State.countAge_eq (s : State) :
    ∃ v, s.countAge = { s with air := { s.air with ageSamples := s.air.nextSamples }, arrival := v }
      ∧ v.tracker = s.arrival.tracker := by
  unfold State.countAge AirUnit.nextSamples
  repeat' split
  all_goals exact ⟨_, rfl, rfl⟩

theorem State.updateDrift_eq (s : State) :
    ∃ u, s.updateDrift = { s with air := { s.air with drift := s.driftNow }, status := u }
      ∧ ∀ e : Event, e.mem u.sticky
        = (e.mem s.status.sticky || (s.driftNow && !s.air.drift && decide (.compDrift = e))) := by
  obtain ⟨u, hu⟩ := State.raiseIf_shape (s.withAir { s.air with drift := s.driftNow })
    (s.driftNow && !s.air.drift) .compDrift
  refine ⟨u, hu, fun e => ?_⟩
  have hmem := State.mem_raiseIf (s.withAir { s.air with drift := s.driftNow })
    (s.driftNow && !s.air.drift) .compDrift e
  rwa [hu] at hmem

/-- 04 R61, R66, R67: the compensation unit at an arrival. -/
theorem State.airArrive_eq (s : State) :
    ∃ u v, s.dropSnapshot.updateDrift.countAge =
        { s with
          air := { s.air with
            snapshot := s.air.snapshot.filter (fun n => n.epoch == (s.chan .t).counter.epoch)
            drift := s.driftNow
            ageSamples := s.air.nextSamples }
          status := u, arrival := v }
      ∧ v.tracker = s.arrival.tracker
      ∧ ∀ e : Event, e.mem u.sticky = (e.mem s.status.sticky
          || (s.driftNow && !s.air.drift && decide (.compDrift = e))) := by
  obtain ⟨u, hu, hmem⟩ := s.dropSnapshot.updateDrift_eq
  obtain ⟨v, hv, htracker⟩ := s.dropSnapshot.updateDrift.countAge_eq
  rw [State.driftNow_dropSnapshot] at hu hmem
  rw [hu, State.dropSnapshot_eq] at hv htracker
  rw [State.dropSnapshot_eq] at hmem
  exact ⟨u, v, by rw [hu, State.dropSnapshot_eq]; exact hv, htracker, hmem⟩

/-! #### The endings of an arrival (07 R121, 08 R143, log entry 5) -/

/-- What the endings of an arrival keep: all but the table, the pass, the line input, the age and the stale
condition, the wait and three sticky events; table, pass and line input change only with an abort, the
compensation unit only when a capture may come first, the wait only where there is one. -/
structure State.EndedFrom (s t : State) (abort first : Bool) : Prop where
  newest : t.newest = s.newest
  channels : t.channels = s.channels
  fit : t.fit = s.fit
  axis : t.axis = s.axis
  drive : t.drive = s.drive
  link : t.link = s.link
  straps : t.straps = s.straps
  restartLine : t.restartLine = s.restartLine
  tracker : t.arrival.tracker = s.arrival.tracker
  snapshot : t.air.snapshot = s.air.snapshot
  drift : t.air.drift = s.air.drift
  air : first = false → t.air = s.air
  kept : abort = false → t.table = s.table ∧ t.pass = s.pass ∧ t.line = s.line
  reref : s.reref.wait = none → t.reref = s.reref
  sticky : ∀ e : Event, e ≠ .compStale → e ≠ .passAborted → e ≠ .rerefEnd →
    e.mem t.status.sticky = e.mem s.status.sticky

namespace State.EndedFrom

variable {s t u : State} {abort first : Bool}

theorem refl (s : State) (abort first : Bool) : s.EndedFrom s abort first :=
  ⟨rfl, rfl, rfl, rfl, rfl, rfl, rfl, rfl, rfl, rfl, rfl, fun _ => rfl, fun _ => ⟨rfl, rfl, rfl⟩,
    fun _ => rfl, fun _ _ _ _ => rfl⟩

theorem trans (h : s.EndedFrom t abort first) (h' : t.EndedFrom u abort first) :
    s.EndedFrom u abort first where
  newest := h'.newest.trans h.newest
  channels := h'.channels.trans h.channels
  fit := h'.fit.trans h.fit
  axis := h'.axis.trans h.axis
  drive := h'.drive.trans h.drive
  link := h'.link.trans h.link
  straps := h'.straps.trans h.straps
  restartLine := h'.restartLine.trans h.restartLine
  tracker := h'.tracker.trans h.tracker
  snapshot := h'.snapshot.trans h.snapshot
  drift := h'.drift.trans h.drift
  air hf := (h'.air hf).trans (h.air hf)
  kept ha := by
    obtain ⟨htable, hpass, hline⟩ := h.kept ha
    obtain ⟨htable', hpass', hline'⟩ := h'.kept ha
    exact ⟨htable'.trans htable, hpass'.trans hpass, hline'.trans hline⟩
  reref hw := (h'.reref ((congrArg RerefUnit.wait (h.reref hw)).trans hw)).trans (h.reref hw)
  sticky e he he' he'' := (h'.sticky e he he' he'').trans (h.sticky e he he' he'')

theorem closeAborted (s : State) (r : PassReason) (first : Bool) :
    s.EndedFrom (s.closeAborted r) true first := by
  unfold State.closeAborted
  split
  · obtain ⟨t, p, h⟩ := s.discardPass_shape r
    rw [h]
    exact ⟨rfl, rfl, rfl, rfl, rfl, rfl, rfl, rfl, rfl, rfl, rfl, fun _ => rfl, nofun, fun _ => rfl,
      fun _ _ he _ => State.mem_raise_of_ne _ he⟩
  · exact refl s true first

theorem finishWait (s : State) (o : RerefOutcome) (c : Option RerefCapture) (a : Option RerefApplied)
    (abort first : Bool) : s.EndedFrom (s.finishWait o c a) abort first := by
  unfold State.finishWait
  split
  next hw =>
    obtain ⟨r, h⟩ := s.endWait_shape o c a
    rw [h]
    exact ⟨rfl, rfl, rfl, rfl, rfl, rfl, rfl, rfl, rfl, rfl, rfl, fun _ => rfl,
      fun _ => ⟨rfl, rfl, rfl⟩, fun hnone => by simp [State.waiting, hnone] at hw,
      fun _ _ _ he => State.mem_raise_of_ne _ he⟩
  · exact refl s abort first

theorem ageStep (s : State) : s.EndedFrom s.ageStep true true := by
  unfold State.ageStep
  dsimp only
  repeat' split
  · exact refl s true true
  · exact ⟨rfl, rfl, rfl, rfl, rfl, rfl, rfl, rfl, rfl, rfl, rfl, nofun, nofun, fun _ => rfl,
      fun _ he _ _ => State.mem_raise_of_ne _ he⟩
  · exact ⟨rfl, rfl, rfl, rfl, rfl, rfl, rfl, rfl, rfl, rfl, rfl, nofun, nofun, fun _ => rfl,
      fun _ _ _ _ => rfl⟩

theorem takeAgeTick (s : State) : s.EndedFrom s.takeAgeTick true true := by
  unfold State.takeAgeTick
  split
  · refine trans (t := s.withArrival { s.arrival with ageTick := false }) ?_ (ageStep _)
    exact ⟨rfl, rfl, rfl, rfl, rfl, rfl, rfl, rfl, rfl, rfl, rfl, nofun, nofun, fun _ => rfl,
      fun _ _ _ _ => rfl⟩
  · exact refl s true true

/-- 05 R89: a capture that no wait receives goes to the line table. -/
theorem routeCapture (hw : s.waiting = false) (c : Capture) :
    s.EndedFrom (s.routeCapture c) true true := by
  obtain ⟨t, p, h⟩ := s.tableCapture_shape c
  rw [State.routeCapture, hw, if_neg Bool.false_ne_true, h]
  exact ⟨rfl, rfl, rfl, rfl, rfl, rfl, rfl, rfl, rfl, rfl, rfl, nofun, nofun, fun _ => rfl,
    fun _ _ _ _ => rfl⟩

theorem withLine (s : State) (l : LineInput) : s.EndedFrom (s.withLine l) true true :=
  ⟨rfl, rfl, rfl, rfl, rfl, rfl, rfl, rfl, rfl, rfl, rfl, nofun, nofun, fun _ => rfl,
    fun _ _ _ _ => rfl⟩

theorem completeCapture (hw : s.waiting = false) : s.EndedFrom s.completeCapture true true := by
  unfold State.completeCapture
  split
  · exact refl s true true
  · split
    · refine (withLine s _).trans (routeCapture ?_ _)
      exact hw
    · split
      · exact withLine s _
      · exact refl s true true

theorem takeCapture (hw : s.reref.wait = none) : s.EndedFrom s.takeCapture true true := by
  unfold State.takeCapture
  split
  · have htick := takeAgeTick s
    have hidle : s.takeAgeTick.waiting = false := by
      rw [State.waiting, htick.reref hw, hw]
      rfl
    dsimp only
    rw [if_neg (by simp [hidle])]
    exact htick.trans (completeCapture hidle)
  · exact refl s true true

/-- The endings of an arrival at which no wait sees a capture come first. -/
theorem endings (s before : State) {first : Bool} (h : s.reref.wait = none ∨ first = false) :
    s.EndedFrom (s.endings before first) (s.passOpen && referenceLost before s) first := by
  unfold State.endings
  dsimp only
  generalize habort : (s.passOpen && referenceLost before s) = abort
  generalize hfail : (s.waiting && signalLost before s) = fail
  have hfinish (t : State) (b : Bool) :
      t.EndedFrom (if fail = true then t.finishWait .failedSignal none none else t) b first := by
    split
    · exact finishWait t _ _ _ b first
    · exact refl t b first
  refine trans ?_ (hfinish _ abort)
  cases first with
  | false =>
    cases abort with
    | false => exact refl s false false
    | true => exact closeAborted s _ false
  | true =>
    have hw := h.resolve_right (by decide)
    have hnofail : fail = false := by simp [← hfail, State.waiting, hw]
    subst hnofail
    cases abort with
    | false => exact refl s false true
    | true => exact (takeCapture hw).trans (closeAborted _ _ true)

end State.EndedFrom

/-! #### The whole arrival -/

/-- A sample arrival up to the endings. -/
def State.beforeEndings (s : State) (a : SampleInput) : State :=
  let k := s.arrivingIndex
  let r := s.channelArrivals a
  let s1 := ((s.takeSample k r).fitArrive a.trimOrder r).pushWindow k
  let s2 := (s1.dropSnapshot.updateDrift.countAge).epochsArrived s.measuringEpochs k
  (s2.makeDue k).countReport

theorem State.arrive_eq (s : State) (a : SampleInput) :
    s.arrive a = (s.beforeEndings a).endings s a.captureFirst := rfl

theorem State.epochsArrived_eq (s : State) (old : BitVec 32 × BitVec 32) (k : Nat) :
    ∃ r, s.epochsArrived old k = { s with reref := r } ∧ (s.reref.wait = none → r = s.reref) := by
  unfold State.epochsArrived State.moveValidFrom
  split
  · exact ⟨_, rfl, fun _ => rfl⟩
  · split
    · exact ⟨_, rfl, fun _ => rfl⟩
    next w hw => exact ⟨_, rfl, fun hnone => by simp [hnone] at hw⟩

/-- 10 R169: the report timer counts while the port is ON. -/
theorem State.countReport_eq (s : State) :
    ∃ v, s.countReport =
        { s with
          drive := { s.drive with
            timer := if s.drive.enable then s.drive.timer + 1 else s.drive.timer }
          arrival := v }
      ∧ v.tracker = s.arrival.tracker := by
  unfold State.countReport
  split
  · exact ⟨{ s.arrival with report := decide (s.drive.period ≤ s.drive.timer + 1) }, rfl, rfl⟩
  · exact ⟨s.arrival, rfl, rfl⟩

/-- What the other blocks make of a sample once the channels and the fit unit have taken it. -/
theorem State.afterFit_eq (s : State) (k : Nat) (old : BitVec 32 × BitVec 32) :
    ∃ rr u v,
      ((((s.pushWindow k).dropSnapshot.updateDrift.countAge).epochsArrived old k).makeDue k).countReport =
        { s with
          air := { s.air with
            snapshot := s.air.snapshot.filter (fun n => n.epoch == (s.chan .t).counter.epoch)
            drift := s.driftNow
            ageSamples := s.air.nextSamples }
          axis := { s.axis with window := (s.windowEntry k :: s.axis.window).take 64 }
          drive := { s.drive with
            timer := if s.drive.enable then s.drive.timer + 1 else s.drive.timer }
          reref := rr, status := u, arrival := v }
      ∧ (s.reref.wait = none → rr = s.reref)
      ∧ v.tracker = s.arrival.tracker
      ∧ ∀ e : Event, e.mem u.sticky
        = (e.mem s.status.sticky || (s.driftNow && !s.air.drift && decide (.compDrift = e))) := by
  obtain ⟨u, v, hair, htracker, hmem⟩ := (s.pushWindow k).airArrive_eq
  obtain ⟨rr, hreref, hidle⟩ := (s.pushWindow k).dropSnapshot.updateDrift.countAge.epochsArrived_eq old k
  obtain ⟨v', hreport, htracker'⟩ :=
    (((s.pushWindow k).dropSnapshot.updateDrift.countAge).epochsArrived old k |>.makeDue k).countReport_eq
  rw [hreref, hair] at hreport htracker'
  rw [hair] at hidle
  rw [hreref, hair]
  exact ⟨rr, u, v', hreport, hidle, htracker'.trans htracker, hmem⟩

/-- The channels after an arrival. -/
def State.arrivedChannels (s : State) (a : SampleInput) : PerChannel ChannelUnit :=
  (s.channelArrivals a).map ChannelArrival.unit

/-- 01 R3: a sample arrival up to its endings. -/
theorem State.beforeEndings_eq (s : State) (a : SampleInput) :
    ∃ f rr u v, s.beforeEndings a =
        { s with
          newest := some s.arrivingIndex
          channels := s.arrivedChannels a
          fit := f
          air := { s.air with
            snapshot := s.air.snapshot.filter (fun n => n.epoch == (s.arrivedChannels a).t.counter.epoch)
            drift := (s.withChannels (s.arrivedChannels a)).driftNow
            ageSamples := s.air.nextSamples }
          axis := { s.axis with
            window := ((s.withChannels (s.arrivedChannels a)).windowEntry s.arrivingIndex
              :: s.axis.window).take 64 }
          drive := { s.drive with
            timer := if s.drive.enable then s.drive.timer + 1 else s.drive.timer }
          reref := rr, status := u, arrival := v }
      ∧ f.queue = (s.fit.submitAll (s.fit.trimsOf a.trimOrder (s.channelArrivals a))).queue
      ∧ (s.fit.timer = none → f = s.fit.submitAll (s.fit.trimsOf a.trimOrder (s.channelArrivals a)))
      ∧ (s.reref.wait = none → rr = s.reref)
      ∧ v.tracker = (s.arrivedChannels a).t.counter.trackerValues
      ∧ ∀ e : Event, e ≠ .fitDone → e.mem u.sticky = ((e.mem s.status.sticky
          || allChannels.any (fun ch => ((s.channelArrivals a).get ch).lost && decide (lostEvent ch = e)))
          || ((s.withChannels (s.arrivedChannels a)).driftNow && !s.air.drift
            && decide (.compDrift = e))) := by
  obtain ⟨u1, v1, h1, htracker1, hmem1⟩ := s.takeSample_eq s.arrivingIndex (s.channelArrivals a)
  obtain ⟨f, u2, v2, h2, hqueue, hfit, htracker2, hmem2⟩ :=
    (s.takeSample s.arrivingIndex (s.channelArrivals a)).fitArrive_eq a.trimOrder (s.channelArrivals a)
  obtain ⟨rr, u3, v3, h3, hidle, htracker3, hmem3⟩ :=
    ((s.takeSample s.arrivingIndex (s.channelArrivals a)).fitArrive a.trimOrder
      (s.channelArrivals a)).afterFit_eq s.arrivingIndex s.measuringEpochs
  rw [h1] at h2 hqueue hfit htracker2 hmem2
  rw [h1, h2] at h3 hidle htracker3 hmem3
  refine ⟨f, rr, u3, v3, ?_, hqueue, hfit, hidle, ?_, fun e he => ?_⟩
  · rw [State.beforeEndings, h1, h2]
    exact h3
  · exact htracker3.trans (htracker2.trans htracker1)
  · rw [hmem3, hmem2 e he, hmem1]
    rfl

theorem State.arrivedChannels_get (s : State) (a : SampleInput) (ch : Channel) :
    (s.arrivedChannels a).get ch = ((s.chan ch).arrive (a.pairOf ch)).unit := by
  rw [State.arrivedChannels, PerChannel.get_map, State.channelArrivals_get]

/-- 02 R27, R29: what a channel's counter reports, whether it is enabled or not: an OFF counter reports
nothing. -/
theorem ChannelUnit.arrive_reports (u : ChannelUnit) (p : Pair) :
    (u.arrive p).lost
        = (u.counter.arrive (u.front.arrive p).phase (u.front.arrive p).amplitude).lost
      ∧ (u.arrive p).trim
        = (u.counter.arrive (u.front.arrive p).phase (u.front.arrive p).amplitude).trim := by
  by_cases hoff : u.counter.state = .off
  · rw [ChannelUnit.arrive_of_off hoff, Counter.arrive, hoff]
    exact ⟨rfl, rfl⟩
  · rw [ChannelUnit.arrive_of_on hoff]
    exact ⟨rfl, rfl⟩

/-- The queue after new requests, when none waits behind an empty slot. -/
theorem FitUnit.submitAll_queue {f : FitUnit} (h : f.working.isSome = true ∨ f.queue = [])
    (new : List FitRequest) :
    (f.submitAll new).queue = if f.working = none then new.tail else f.queue ++ new := by
  unfold submitAll
  split
  next hnone =>
    have hempty : f.queue = [] := h.resolve_left (by simp [hnone])
    simp [hnone, hempty]
  next hsome => simp [hsome]

theorem FitUnit.submitAll_eq (f : FitUnit) (new : List FitRequest) :
    f.submitAll new =
      { f with
        working := if f.working = none then new.head? else f.working
        queue := (f.submitAll new).queue } := by
  unfold submitAll
  split
  next hnone => simp [hnone]
  next hsome => simp [hsome]

theorem referenceLost_of_kept {before after : State}
    (h : ∀ ch, ch = .xl ∨ ch = .xr → before.referenced ch = true → after.referenced ch = true) :
    referenceLost before after = false := by
  have hxl := h .xl (.inl rfl)
  have hxr := h .xr (.inr rfl)
  unfold referenceLost
  cases hx : before.referenced .xl <;> cases hr : before.referenced .xr <;> simp_all

/-- Settles O9: the arrival up to its endings, block by block, and what the endings keep. -/
theorem sampleArrivalRunsChannels : Obligations.SampleArrivalRunsChannels := by
  intro a s hquiet hwait
  obtain ⟨f, rr, u, v, hpre, hqueue, hfit, hidle, htracker, hmem⟩ := s.beforeEndings_eq a
  have hend := State.EndedFrom.endings (s.beforeEndings a) s (first := a.captureFirst) (by
    rw [hpre]
    exact hwait.imp_left fun hw => (congrArg RerefUnit.wait (hidle hw)).trans hw)
  rw [← State.arrive_eq] at hend
  obtain ⟨t, ht⟩ : ∃ t, s.arrive a = t := ⟨_, rfl⟩
  rw [ht, hpre] at hend
  have hchannels : t.channels = s.arrivedChannels a := hend.channels
  have hchan (ch : Channel) : t.chan ch = ((s.chan ch).arrive (a.pairOf ch)).unit := by
    rw [State.chan, hchannels, State.arrivedChannels_get]
  have hreports (ch : Channel) := (s.chan ch).arrive_reports (a.pairOf ch)
  have hdrift : (s.withChannels (s.arrivedChannels a)).driftNow = t.air.drift := hend.drift.symm
  rw [hdrift] at hmem
  have hsticky (e : Event) (h1 : e ≠ .compStale) (h2 : e ≠ .passAborted) (h3 : e ≠ .rerefEnd)
      (h4 : e ≠ .fitDone) := (hend.sticky e h1 h2 h3).trans (hmem e h4)
  refine ⟨t, ?_, hend.newest, fun ch hoff => ?_, fun ch hon => ?_, fun ch => ?_, ?_, hend.drive, ?_,
    hend.link, hend.straps, hend.restartLine, fun hrefs => hend.kept ?_, fun hw => ?_, ?_, ?_, ?_, ?_,
    fun hfirst => ?_, ?_⟩
  · rw [exec, execSampleArrival, s.settle_of_quiet hquiet, ht]
  · rw [hchan, ChannelUnit.arrive_of_off hoff]
  · rw [hchan, ChannelUnit.arrive_of_on hon]
  · rw [hsticky (lostEvent ch) (by cases ch <;> decide) (by cases ch <;> decide)
      (by cases ch <;> decide) (by cases ch <;> decide), any_lost, State.channelArrivals_get,
      (hreports ch).1, decide_eq_false (by cases ch <;> decide), Bool.and_false, Bool.or_false]
  · simp only [State.chan, hchannels]
    exact hend.axis
  · simp only [State.chan, hchannels]
    exact hend.tracker.trans htracker
  · rcases hrefs with hnone | hkept
    · simp [State.passOpen, hnone]
    · rw [referenceLost_of_kept fun ch hch href => ?_, Bool.and_false]
      have := hkept ch hch href
      rwa [State.referenced, State.chan, hchannels] at this
  · exact (hend.reref ((congrArg RerefUnit.wait (hidle hw)).trans hw)).trans (hidle hw)
  · rintro e (rfl | rfl | rfl) <;>
      rw [hsticky _ (by decide) (by decide) (by decide) (by decide),
        any_lost_of_ne _ (fun ch => by cases ch <;> decide)] <;> simp
  · simp only [State.chan, hchannels]
    exact hend.snapshot
  · rw [← hdrift, State.driftNow_iff]
    simp only [State.chan, hchannels]
    rfl
  · rw [hsticky _ (by decide) (by decide) (by decide) (by decide),
      any_lost_of_ne _ (fun ch => by cases ch <;> decide)]
    simp
  · rw [hend.air hfirst]
    rfl
  · intro new hnew
    have htrims : s.fit.trimsOf a.trimOrder (s.channelArrivals a) = new := by
      simp only [hnew, FitUnit.trimsOf, State.channelArrivals_get, hreports]
    rw [htrims] at hqueue hfit
    obtain ⟨⟨-, -, -, -, -, -, -, hslot, -⟩, -⟩ := hquiet
    rw [hend.fit]
    refine ⟨hqueue.trans (FitUnit.submitAll_queue hslot new), fun hnone => ?_⟩
    rw [hfit hnone]
    exact s.fit.submitAll_eq new

end Sys2Proof.Machine
end

/-! ### Requests of the channels (02 R30 to R33, 01 R12, R13, 07 R121, 08 R143, R145) -/

section
namespace Sys2Proof.Machine

/-! #### The answer -/

/-- 09 R159: a served own request is answered. -/
theorem Served.finish_answered {v : Served} {h : Header} (hst : v.state.link.station = some h.address)
    (code : Byte) :
    v.finish true code h.tag
      = v.state.answered h code v.status (if v.status.taken then v.data else []) v.after := by
  have hreply : v.reply code h.tag = { address := h.address, code := code, tag := h.tag, status := v.status
                                       data := if v.status.taken then v.data else [] } := by
    rw [Served.reply, hst, Option.getD_some]
  rw [Served.finish, if_pos rfl, hreply]
  rfl

/-- 09 R158 to R160: what a request command does at a part that is ready for it. -/
theorem State.request_answered {s : State} {h : Header} (q : s.Ready h) {r : Request} {v : Served}
    (hv : s.serve r = v) (hst : v.state.link.station = some h.address) :
    s.request h r
      = v.state.answered h r.code v.status (if v.status.taken then v.data else []) v.after := by
  rw [s.request_of_ready q, hv, Served.finish_answered hst]

/-! #### Disabling a channel: the fit unit (03 R53) -/

section
variable {s : State} {ch c : Channel} {o : FitOutcome}

theorem State.fitOutcome_result (r : FitResult) :
    (s.fitOutcome ch r).fit.result.get c = if c = ch then some r else s.fit.result.get c :=
  State.putFitResult_result s ch r c

/-- What the ending of a channel's requests leaves alone: the channels, the pending resets and the records
of the other channels. -/
structure State.RequestsEnded (s t : State) (ch : Channel) : Prop where
  channels : t.channels = s.channels
  pendingReset : t.fit.pendingReset = s.fit.pendingReset
  result : ∀ c, c ≠ ch → t.fit.result.get c = s.fit.result.get c

theorem State.requestsEnded_endWorkingOf (s : State) (ch : Channel) (o : FitOutcome) :
    s.RequestsEnded (s.endWorkingOf ch o) ch ∧ (s.endWorkingOf ch o).fit.queue = s.fit.queue := by
  unfold State.endWorkingOf
  split
  · exact ⟨⟨rfl, rfl, fun _ _ => rfl⟩, rfl⟩
  · split
    next hr =>
      exact ⟨⟨rfl, rfl, fun c hc => (State.fitOutcome_result _).trans (if_neg (hr ▸ hc))⟩, rfl⟩
    · exact ⟨⟨rfl, rfl, fun _ _ => rfl⟩, rfl⟩

theorem State.endWorkingOf_of_mem {r : FitRequest} (h : s.fit.working = some r) (hch : r.channel = ch) :
    (∃ q, (s.endWorkingOf ch o).fit.result.get ch = some q ∧ q.outcome = o)
      ∧ (s.endWorkingOf ch o).fit.working = none ∧ (s.endWorkingOf ch o).fit.timer = none
      ∧ (s.endWorkingOf ch o).fit.acc = .empty := by
  rw [State.endWorkingOf, h]
  dsimp only
  rw [if_pos hch]
  exact ⟨⟨_, (State.fitOutcome_result _).trans (if_pos hch.symm), rfl⟩, rfl, rfl, rfl⟩

theorem State.requestsEnded_endWaiting (s : State) (ch : Channel) (o : FitOutcome) :
    s.RequestsEnded (s.endWaiting ch o) ch
      ∧ (s.endWaiting ch o).fit.queue = s.fit.queue.filter (fun r => r.channel ≠ ch)
      ∧ (s.endWaiting ch o).fit.working = s.fit.working
      ∧ (s.endWaiting ch o).fit.timer = s.fit.timer ∧ (s.endWaiting ch o).fit.acc = s.fit.acc := by
  unfold State.endWaiting
  split
  next hnone =>
    have hkeep : s.fit.queue.filter (fun r => r.channel ≠ ch) = s.fit.queue :=
      List.filter_eq_self.mpr fun r hr => by simpa using List.find?_eq_none.mp hnone r hr
    exact ⟨⟨rfl, rfl, fun _ _ => rfl⟩, hkeep.symm, rfl, rfl, rfl⟩
  next r _ =>
    refine ⟨⟨rfl, rfl, fun c hc => (State.fitOutcome_result _).trans (if_neg hc)⟩, ?_, rfl, rfl, rfl⟩
    exact List.filter_congr fun q _ => by simp [beq_eq_decide]

/-- A waiting request leaves its outcome as the channel's record; without one the record stays. -/
theorem State.endWaiting_result (s : State) (ch : Channel) (o : FitOutcome) :
    ((∃ q, (s.endWaiting ch o).fit.result.get ch = some q ∧ q.outcome = o)
      ∨ (∀ r ∈ s.fit.queue, r.channel ≠ ch) 
        ∧ (s.endWaiting ch o).fit.result.get ch = s.fit.result.get ch) := by
  unfold State.endWaiting
  split
  next hnone =>
    exact .inr ⟨fun r hr => by simpa using List.find?_eq_none.mp hnone r hr, rfl⟩
  next => exact .inl ⟨_, (State.fitOutcome_result _).trans (if_pos rfl), rfl⟩

end

/-- The requests of a channel ended with an outcome, in the slot and in the queue. -/
def State.endRequests (s : State) (ch : Channel) (o : FitOutcome) : State :=
  (s.endWorkingOf ch o).endWaiting ch o

section
variable (s : State) (ch : Channel) (o : FitOutcome)

theorem State.requestsEnded_endRequests : s.RequestsEnded (s.endRequests ch o) ch := by
  have hw := (s.requestsEnded_endWorkingOf ch o).1
  have hq := ((s.endWorkingOf ch o).requestsEnded_endWaiting ch o).1
  exact ⟨hq.channels.trans hw.channels, hq.pendingReset.trans hw.pendingReset,
    fun c hc => (hq.result c hc).trans (hw.result c hc)⟩

theorem State.endRequests_queue :
    (s.endRequests ch o).fit.queue = s.fit.queue.filter (fun r => r.channel ≠ ch) := by
  rw [State.endRequests, ((s.endWorkingOf ch o).requestsEnded_endWaiting ch o).2.1,
    (s.requestsEnded_endWorkingOf ch o).2]

variable {s ch}

theorem State.endRequests_working {r : FitRequest} (h : s.fit.working = some r) (hch : r.channel = ch) :
    (s.endRequests ch o).fit.working = none ∧ (s.endRequests ch o).fit.timer = none
      ∧ (s.endRequests ch o).fit.acc = .empty := by
  obtain ⟨-, hworking, htimer, hacc⟩ := State.endWorkingOf_of_mem (o := o) h hch
  obtain ⟨-, -, hworking', htimer', hacc'⟩ := (s.endWorkingOf ch o).requestsEnded_endWaiting ch o
  exact ⟨hworking'.trans hworking, htimer'.trans htimer, hacc'.trans hacc⟩

/-- 03 R53: a channel with a request in the slot or in the queue is recorded with the outcome. -/
theorem State.endRequests_result
    (h : (∃ r, s.fit.working = some r ∧ r.channel = ch) ∨ ∃ r ∈ s.fit.queue, r.channel = ch) :
    ∃ q, (s.endRequests ch o).fit.result.get ch = some q ∧ q.outcome = o := by
  rcases (s.endWorkingOf ch o).endWaiting_result ch o with hq | ⟨hnone, hkeep⟩
  · exact hq
  · rw [(s.requestsEnded_endWorkingOf ch o).2] at hnone
    rcases h with ⟨r, hr, hch⟩ | ⟨r, hr, hch⟩
    · rw [State.endRequests, hkeep]
      exact (State.endWorkingOf_of_mem hr hch).1
    · exact absurd hch (hnone r hr)

end

/-- 03 R53: the fit unit and the front end after a channel has been disabled. -/
structure State.FitDisabled (s t : State) (ch : Channel) : Prop where
  other : ∀ c, c ≠ ch → t.chan c = s.chan c ∧ t.fit.result.get c = s.fit.result.get c
  counter : (t.chan ch).counter = (s.chan ch).counter
  front : (t.chan ch).front = if s.fit.pendingReset.get ch = true then
      { (s.chan ch).front with params := .nominal }
    else (s.chan ch).front
  pendingReset : t.fit.pendingReset.get ch = false
  queue : t.fit.queue = s.fit.queue.filter (fun r => r.channel ≠ ch)
  working : ∀ r, s.fit.working = some r → r.channel = ch →
    t.fit.working = none ∧ t.fit.timer = none ∧ t.fit.acc = ⟨0, 0, 0, none⟩
  result : ch ∈ s.fit.claims → s.fit.pendingReset.get ch = false →
    ∃ q, t.fit.result.get ch = some q ∧ q.outcome = .abandonedDisabled

theorem State.fitDisabled_fitDisable (s : State) (ch : Channel) : s.FitDisabled (s.fitDisable ch) ch := by
  obtain ⟨hchannels, hpending, hresult⟩ := s.requestsEnded_endRequests ch .abandonedDisabled
  have hchan (c : Channel) : (s.endRequests ch .abandonedDisabled).chan c = s.chan c := by
    rw [State.chan, hchannels]
    rfl
  have hqueue := s.endRequests_queue ch .abandonedDisabled
  have hworking (r : FitRequest) := State.endRequests_working (s := s) (ch := ch) (r := r) .abandonedDisabled
  have hdef : s.fitDisable ch =
      if (s.endRequests ch .abandonedDisabled).fit.pendingReset.get ch then
        ((s.endRequests ch .abandonedDisabled).clearPendingReset ch).installNominal ch
      else s.endRequests ch .abandonedDisabled := rfl
  rw [hpending] at hdef
  cases hp : s.fit.pendingReset.get ch with
  | false =>
    rw [hp, if_neg Bool.false_ne_true] at hdef
    rw [hdef]
    refine ⟨fun c hc => ⟨hchan c, hresult c hc⟩, by rw [hchan], by rw [hchan, hp]; rfl,
      by rw [hpending, hp], hqueue, hworking, fun hclaim _ => State.endRequests_result _ ?_⟩
    simp only [FitUnit.claims, List.mem_append, List.mem_map, List.mem_filter, hp, Bool.false_eq_true,
      and_false, or_false] at hclaim
    obtain ⟨r, hr | hr, hch⟩ := hclaim
    · exact .inl ⟨r, Option.mem_toList.mp hr, hch⟩
    · exact .inr ⟨r, hr, hch⟩
  | true =>
    rw [hp, if_pos rfl] at hdef
    generalize s.endRequests ch .abandonedDisabled = w at *
    have hset (c : Channel) : (s.fitDisable ch).chan c = if c = ch then
        { w.chan ch with front := { (w.chan ch).front with params := .nominal } } else w.chan c := by
      rw [hdef]
      exact State.chan_setChan _ _ _ _
    refine ⟨fun c hc => ⟨?_, ?_⟩, ?_, ?_, ?_, ?_, fun r hr hch => ?_,
      fun _ hclear => absurd (hp.symm.trans hclear) (by decide)⟩
    · rw [hset, if_neg hc, hchan]
    · rw [hdef]
      exact (State.fitOutcome_result _).trans ((if_neg hc).trans (hresult c hc))
    · rw [hset, if_pos rfl, hchan]
    · rw [hset, if_pos rfl, hchan, hp]
      rfl
    · rw [hdef]
      exact (PerChannel.get_set _ _ _ _).trans (if_pos rfl)
    · rw [hdef]
      exact hqueue
    · rw [hdef]
      exact hworking r hr hch

/-! #### Disabling a channel: the pass and the wait (07 R121, 08 R143) -/

theorem LineRecord.discard_eq (r : LineRecord) :
    r.discard = if r.state = .taken ∨ r.state = .missed then
        { r with state := .armed, pending := none }
      else r := by
  unfold discard
  split <;> simp [*]

/-- 07 R123: an ABORTED close of the open pass. -/
theorem State.closeAborted_of_open {s : State} (h : s.pass.context ≠ none) (r : PassReason) :
    Event.passAborted.mem (s.closeAborted r).status.sticky = true
      ∧ (s.closeAborted r).table = s.table.map LineRecord.discard
      ∧ (s.closeAborted r).pass.context = none
      ∧ ∃ m, (s.closeAborted r).pass.last = some m ∧ m.outcome = .aborted ∧ m.reason = r := by
  obtain ⟨c, hc⟩ := Option.ne_none_iff_exists'.mp h
  rw [State.closeAborted, State.passOpen, hc, Option.isSome_some, if_pos rfl, State.discardPass, hc]
  exact ⟨by simp [State.mem_raise], rfl, rfl, _, rfl, rfl, rfl⟩

theorem State.closeAborted_of_closed {s : State} (h : s.pass.context = none) (r : PassReason) :
    s.closeAborted r = s := by
  rw [State.closeAborted, State.passOpen, h]
  rfl

/-- 08 R148: the ending of a wait in force. -/
theorem State.finishWait_of_waiting {s : State} (h : s.reref.wait ≠ none) (o : RerefOutcome)
    (c : Option RerefCapture) (a : Option RerefApplied) :
    Event.rerefEnd.mem (s.finishWait o c a).status.sticky = true
      ∧ (s.finishWait o c a).reref.wait = none
      ∧ ∃ m, (s.finishWait o c a).reref.result = some m ∧ m.outcome = o := by
  obtain ⟨w, hw⟩ := Option.ne_none_iff_exists'.mp h
  rw [State.finishWait, State.waiting, hw, Option.isSome_some, if_pos rfl, State.endWait, hw]
  exact ⟨by simp [State.mem_raise], rfl, _, rfl, rfl⟩

theorem State.finishWait_of_idle {s : State} (h : s.reref.wait = none) (o : RerefOutcome)
    (c : Option RerefCapture) (a : Option RerefApplied) : s.finishWait o c a = s := by
  rw [State.finishWait, State.waiting, h]
  rfl

/-- 02 R32: XL and XR end the open pass and the wait as they are disabled. -/
theorem State.measuringLost_eq (s : State) {ch : Channel} (h : ch = .xl ∨ ch = .xr) :
    s.measuringLost ch = (s.closeAborted .disabled).finishWait .failedSignal none none := by
  rcases h with rfl | rfl <;> rfl

/-- What the disabling of XL or XR makes of the pass and the wait. -/
structure State.MeasuringLost (s t : State) : Prop where
  context : t.pass.context = none
  wait : t.reref.wait = none
  pass : s.pass.context ≠ none → Event.passAborted.mem t.status.sticky = true
    ∧ t.table = s.table.map LineRecord.discard
    ∧ ∃ m, t.pass.last = some m ∧ m.outcome = .aborted ∧ m.reason = .disabled
  reref : s.reref.wait ≠ none → Event.rerefEnd.mem t.status.sticky = true
    ∧ ∃ m, t.reref.result = some m ∧ m.outcome = .failedSignal

theorem State.measuringLost_measuringLost (s : State) {ch : Channel} (h : ch = .xl ∨ ch = .xr) :
    s.MeasuringLost (s.measuringLost ch) := by
  rw [State.measuringLost_eq s h]
  obtain ⟨_, _, _, hclose⟩ := s.closeAborted_shape .disabled
  have hreref : (s.closeAborted .disabled).reref = s.reref := by rw [hclose]
  have hcontext : (s.closeAborted .disabled).pass.context = none := by
    by_cases hopen : s.pass.context = none
    · rw [State.closeAborted_of_closed hopen, hopen]
    · exact (State.closeAborted_of_open hopen _).2.2.1
  have hpass (hopen : s.pass.context ≠ none) := State.closeAborted_of_open hopen .disabled
  generalize s.closeAborted .disabled = w at *
  by_cases hw : w.reref.wait = none
  · rw [State.finishWait_of_idle hw]
    refine ⟨hcontext, hw, fun hopen => ?_, fun hwait => absurd (hreref ▸ hw) hwait⟩
    obtain ⟨hmem, htable, -, hlast⟩ := hpass hopen
    exact ⟨hmem, htable, hlast⟩
  · obtain ⟨hmem', hidle, hresult⟩ := State.finishWait_of_waiting hw .failedSignal none none
    have hkeep := State.EndedFrom.finishWait w .failedSignal none none false false
    obtain ⟨htable', hpass', -⟩ := hkeep.kept rfl
    rw [← hpass'] at hcontext hpass
    refine ⟨hcontext, hidle, fun hopen => ?_, fun _ => ⟨hmem', hresult⟩⟩
    obtain ⟨hmem, htable, -, hlast⟩ := hpass hopen
    obtain ⟨r, hr⟩ := w.endWait_shape .failedSignal none none
    have hmem'' : Event.passAborted.mem (w.finishWait .failedSignal none none).status.sticky
        = Event.passAborted.mem w.status.sticky := by
      rw [State.finishWait]
      split
      · rw [State.mem_raise_of_ne _ (by decide), hr]
      · rfl
    exact ⟨hmem''.trans hmem, htable'.trans htable, hlast⟩

/-! #### CHANNEL_SET -/

/-- 01 R12: the synthetic angle starts again as the source becomes SYNTHETIC. -/
theorem FrontEnd.settings_eq (f : FrontEnd) (source : Source) (sense : Sense) (step : Int) :
    f.settings source sense step =
      { f with
        source := source, sense := sense, synthStep := step
        synthAngle := if f.source = .detector ∧ source = .synthetic then 0 else f.synthAngle } := by
  unfold settings
  cases f.source <;> cases source <;> rfl

/-- 02 R30, 01 R12: the settings a CHANNEL_SET gives a channel, in the numbers the request carries. -/
theorem ChannelUnit.settings_eq {f : ChannelFields} {q : ChannelRequest}
    (hq : readChannelFields f = some q) (u : ChannelUnit) :
    u.settings q f =
      { front :=
          { u.front with
            source := if f.source = 0 then .detector else .synthetic
            sense := if f.sense = 0 then .normal else .inverted
            synthStep := f.synthStep
            synthAngle := if u.front.source = .detector ∧ f.source = 1 then 0
              else u.front.synthAngle }
        counter :=
          { u.counter with
            floor := f.floor, coastLimit := max 1 (min 1000 f.coastLimit)
            trimInterval := f.trimInterval, trimTravel := 0 } } := by
  obtain ⟨-, -, hsrc, hsen, -⟩ := readChannelFields_eq_some_iff.mp hq
  rw [settings, FrontEnd.settings_eq, hsrc, hsen]
  cases q.source <;> cases q.sense <;> simp [Source.code, Sense.code, Counter.settings, clampNat]

/-- 02 R30: ADJUSTED exactly when the coast limit was clamped. -/
theorem okOrAdjusted_coastLimit (n : Nat) :
    okOrAdjusted (decide (clampNat 1 1000 n ≠ n))
      = if 1 ≤ n ∧ n ≤ 1000 then Status.ok else Status.adjusted := by
  have hclamp : clampNat 1 1000 n ≠ n ↔ ¬(1 ≤ n ∧ n ≤ 1000) := by
    unfold clampNat
    omega
  by_cases h : 1 ≤ n ∧ n ≤ 1000 <;> simp [okOrAdjusted, hclamp, h]

theorem PerChannel.set_set {α : Type} (p : PerChannel α) (ch : Channel) (v w : α) :
    (p.set ch v).set ch w = p.set ch w := by
  cases ch <;> rfl

theorem State.setChan_setChan (s : State) (ch : Channel) (u v : ChannelUnit) :
    (s.setChan ch u).setChan ch v = s.setChan ch v :=
  congrArg s.withChannels (PerChannel.set_set _ _ _ _)

theorem State.chan_setChan_self (s : State) (ch : Channel) (u : ChannelUnit) :
    (s.setChan ch u).chan ch = u :=
  (State.chan_setChan s ch ch u).trans (if_pos rfl)

theorem State.moveValidFrom_of_idle {s : State} (h : s.reref.wait = none) (k : Nat) :
    s.moveValidFrom k = s := by
  rw [State.moveValidFrom, h]

/-- 08 R145: no wait sees a new epoch where there is none, or where the channel is Y or T. -/
theorem State.epochMoved_of_unseen {s : State} {ch : Channel}
    (h : s.reref.wait = none ∨ ch = .y ∨ ch = .t) : s.epochMoved ch = s := by
  rcases h with h | rfl | rfl
  · cases ch
    exacts [State.moveValidFrom_of_idle h _, State.moveValidFrom_of_idle h _, rfl, rfl]
  · rfl
  · rfl

/-- The state a CHANNEL_SET with these fields leaves, its settings taken. -/
def State.afterChannelSet (s : State) (q : ChannelRequest) (f : ChannelFields) : State :=
  let s1 := s.setChan q.channel ((s.chan q.channel).settings q f)
  if q.enable = true ∧ (s.chan q.channel).counter.state = .off then s1.enableChannel q.channel
  else if q.enable = false ∧ (s.chan q.channel).counter.state ≠ .off then s1.disableChannel q.channel
  else s1

theorem State.serveChannelSet_eq {s : State} {f : ChannelFields} {q : ChannelRequest}
    (hq : readChannelFields f = some q) :
    s.serveChannelSet f =
      { state := s.afterChannelSet q f
        status := if 1 ≤ f.coastLimit ∧ f.coastLimit ≤ 1000 then .ok else .adjusted
        data := sentB f.channel ++ sentB f.enable ++ sentB f.source ++ sentB f.sense
          ++ sentS 2 f.synthStep ++ sentU 2 f.floor ++ sentU 2 (max 1 (min 1000 f.coastLimit))
          ++ sentB f.trimInterval } := by
  have hstate : (if q.enable && decide ((s.chan q.channel).counter.state = .off) then
        (s.setChan q.channel ((s.chan q.channel).settings q f)).enableChannel q.channel
      else if !q.enable && !decide ((s.chan q.channel).counter.state = .off) then
        (s.setChan q.channel ((s.chan q.channel).settings q f)).disableChannel q.channel
      else s.setChan q.channel ((s.chan q.channel).settings q f)) = s.afterChannelSet q f := by
    simp only [State.afterChannelSet, Bool.and_eq_true, Bool.not_eq_true', decide_eq_true_eq,
      decide_eq_false_iff_not, ne_eq]
  rw [State.serveChannelSet, hq]
  dsimp only
  rw [hstate, okOrAdjusted_coastLimit]
  rfl

theorem State.disableChannel_link (s : State) (ch : Channel) : (s.disableChannel ch).link = s.link := by
  obtain ⟨_, _, _, hfit⟩ :=
    (s.setCounter ch (s.chan ch).counter.disable).fitDisable_shape ch
  have hlink : ((s.setCounter ch (s.chan ch).counter.disable).fitDisable ch).link = s.link := by
    rw [hfit]
    rfl
  unfold State.disableChannel State.measuringLost
  dsimp only
  split
  iterate 2
    exact (State.EndedFrom.finishWait _ _ _ _ true true).link.trans
      ((State.EndedFrom.closeAborted _ _ true).link.trans hlink)
  all_goals exact hlink

theorem State.afterChannelSet_link (s : State) (q : ChannelRequest) (f : ChannelFields) :
    (s.afterChannelSet q f).link = s.link := by
  unfold State.afterChannelSet
  dsimp only
  split
  · rw [State.enableChannel]
    obtain ⟨_, h⟩ := State.epochMoved_shape ((s.setChan q.channel
      ((s.chan q.channel).settings q f)).setChan q.channel
        ⟨((s.setChan q.channel ((s.chan q.channel).settings q f)).chan q.channel).front.enable,
          ((s.setChan q.channel ((s.chan q.channel).settings q f)).chan q.channel).counter.enable⟩)
      q.channel
    rw [h]
    rfl
  · split
    · exact State.disableChannel_link _ _
    · rfl

/-- CHANNEL_SET out of range: refused (11 R178). -/
theorem exec_channelSet_of_out {s : State} {h : Header} {f : ChannelFields} (q : s.Ready h)
    (hf : readChannelFields f = none) :
    exec (.channelSet h f) s = .next (s.answered h 0x20 .range []) := by
  have hserve : s.serve (.channelSet f) = s.refuse .range := by
    rw [State.serve, State.serveChannelSet, hf]
  exact congrArg Host.Outcome.next (State.request_answered q hserve q.2.1)

/-- CHANNEL_SET in range: taken and answered with its fields. -/
theorem exec_channelSet_of_in {s : State} {h : Header} {f : ChannelFields} {q : ChannelRequest}
    (hready : s.Ready h) (hq : readChannelFields f = some q) :
    exec (.channelSet h f) s = .next ((s.afterChannelSet q f).answered h 0x20
      (if 1 ≤ f.coastLimit ∧ f.coastLimit ≤ 1000 then .ok else .adjusted)
      (sentB f.channel ++ sentB f.enable ++ sentB f.source ++ sentB f.sense
        ++ sentS 2 f.synthStep ++ sentU 2 f.floor ++ sentU 2 (max 1 (min 1000 f.coastLimit))
        ++ sentB f.trimInterval)) := by
  have htaken : (if 1 ≤ f.coastLimit ∧ f.coastLimit ≤ 1000 then Status.ok else Status.adjusted).taken
      = true := by
    split <;> rfl
  have hanswer := State.request_answered hready (r := .channelSet f) (State.serveChannelSet_eq hq)
    ((congrArg LinkUnit.station (s.afterChannelSet_link q f)).trans hready.2.1)
  rw [if_pos htaken] at hanswer
  exact congrArg Host.Outcome.next hanswer

/-- Enabling a channel that is OFF starts it DARK; no wait can be in force on it. -/
theorem State.enableChannel_setChan {s : State} {ch : Channel} (v : ChannelUnit)
    (hoff : (s.chan ch).counter.state = .off) (hwait : s.WaitHasSignal) :
    (s.setChan ch v).enableChannel ch = s.setChan ch ⟨v.front.enable, v.counter.enable⟩ := by
  rw [State.enableChannel, State.chan_setChan_self, State.setChan_setChan]
  refine State.epochMoved_of_unseen ?_
  by_cases hidle : s.reref.wait = none
  · exact .inl hidle
  · refine .inr ?_
    cases ch with
    | xl => exact absurd hoff (hwait hidle .xl (.inl rfl)).1
    | xr => exact absurd hoff (hwait hidle .xr (.inr rfl)).1
    | y => exact .inl rfl
    | t => exact .inr rfl

theorem State.measuringLost_keeps (s : State) (ch : Channel) :
    (s.measuringLost ch).channels = s.channels ∧ (s.measuringLost ch).fit = s.fit := by
  have hclose := State.EndedFrom.closeAborted s .disabled true
  have hfinish := State.EndedFrom.finishWait (s.closeAborted .disabled) .failedSignal none none true true
  unfold State.measuringLost
  split
  iterate 2 exact ⟨hfinish.channels.trans hclose.channels, hfinish.fit.trans hclose.fit⟩
  all_goals exact ⟨rfl, rfl⟩

/-- The state in which the fit unit ends what a disabled channel has in it. -/
def State.countersOff (s : State) (ch : Channel) (v : ChannelUnit) : State :=
  s.setChan ch { v with counter := v.counter.disable }

/-- 02 R32: an enabled channel that takes its settings is disabled: counter, fit unit, pass and wait. -/
theorem State.disableChannel_setChan (s : State) (ch : Channel) (v : ChannelUnit) :
    (s.setChan ch v).disableChannel ch = ((s.countersOff ch v).fitDisable ch).measuringLost ch := by
  have hoff : (s.setChan ch v).setCounter ch ((s.setChan ch v).chan ch).counter.disable
      = s.countersOff ch v := by
    rw [State.setCounter, State.chan_setChan_self, State.setChan_setChan]
    rfl
  rw [State.disableChannel, hoff]

/-- 02 R32, 03 R53: channels and fit unit after a channel has been disabled. -/
theorem State.fitDisabled_disableChannel (s : State) (ch : Channel) (v : ChannelUnit) :
    (s.countersOff ch v).FitDisabled ((s.setChan ch v).disableChannel ch) ch := by
  have hfit := (s.countersOff ch v).fitDisabled_fitDisable ch
  rw [State.disableChannel_setChan]
  obtain ⟨hchannels, hunit⟩ := ((s.countersOff ch v).fitDisable ch).measuringLost_keeps ch
  generalize (s.countersOff ch v).fitDisable ch = w at *
  have hchan (c : Channel) : (w.measuringLost ch).chan c = w.chan c := by
    rw [State.chan, hchannels]
    rfl
  obtain ⟨h1, h2, h3, h4, h5, h6, h7⟩ := hfit
  rw [← hunit] at h1 h4 h5 h6 h7
  exact ⟨by simpa only [hchan] using h1, by rwa [hchan], by rwa [hchan], h4, h5, h6, h7⟩

/-- 07 R121, 08 R143: pass, table and wait after a channel has been disabled. -/
theorem State.disableChannel_pass (s : State) (ch : Channel) (v : ChannelUnit) :
    (ch = .y ∨ ch = .t → ((s.setChan ch v).disableChannel ch).pass = s.pass
        ∧ ((s.setChan ch v).disableChannel ch).table = s.table
        ∧ ((s.setChan ch v).disableChannel ch).reref = s.reref)
      ∧ (ch = .xl ∨ ch = .xr → s.MeasuringLost ((s.setChan ch v).disableChannel ch)) := by
  rw [State.disableChannel_setChan]
  obtain ⟨_, _, _, hshape⟩ := (s.countersOff ch v).fitDisable_shape ch
  rw [hshape]
  constructor
  · rintro (rfl | rfl) <;> exact ⟨rfl, rfl, rfl⟩
  · intro hch
    obtain ⟨h1, h2, h3, h4⟩ := State.measuringLost_measuringLost (ch := ch) _ hch
    exact ⟨h1, h2, h3, h4⟩

/-! #### PRESET -/

theorem countInRange_iff_natAbs {p : Int} : countInRange p = true ↔ p.natAbs ≤ 140737488355327 := by
  rw [countInRange_iff]
  omega

/-- The state a PRESET that is taken leaves. -/
def State.afterPreset (s : State) (ch : Channel) (p : Int) : State :=
  (s.setCounter ch ((s.chan ch).counter.preset p s.rEff)).epochMoved ch

theorem State.afterPreset_link (s : State) (ch : Channel) (p : Int) : (s.afterPreset ch p).link = s.link := by
  obtain ⟨_, h⟩ := (s.setCounter ch ((s.chan ch).counter.preset p s.rEff)).epochMoved_shape ch
  rw [State.afterPreset, h]
  rfl

section
variable {s : State} {c : Nat} {p : Int} {ch : Channel}

theorem State.servePreset_of_out (h : 3 < c ∨ 140737488355327 < p.natAbs) :
    s.servePreset c p = s.refuse .range := by
  unfold State.servePreset
  split
  · rfl
  next ch hch =>
    have hc : ¬3 < c := fun hc => by simp [channelOfCode_eq_none_iff.mpr hc] at hch
    have hp : countInRange p = false := by
      rw [← Bool.not_eq_true, countInRange_iff_natAbs]
      omega
    rw [if_pos (by rw [hp]; rfl)]

theorem State.servePreset_of_state (hc : channelOfCode c = some ch) (hp : p.natAbs ≤ 140737488355327)
    (hst : (s.chan ch).counter.state = .off ∨ (s.chan ch).counter.state = .dark
      ∨ (s.chan ch).counter.state = .coasting) :
    s.servePreset c p = s.refuse .state := by
  rw [State.servePreset, hc]
  dsimp only
  rw [countInRange_iff_natAbs.mpr hp]
  rcases hst with hst | hst | hst <;> rw [hst] <;> rfl

theorem State.servePreset_of_counting (hc : channelOfCode c = some ch)
    (hp : p.natAbs ≤ 140737488355327)
    (hst : (s.chan ch).counter.state = .unreferenced ∨ (s.chan ch).counter.state = .tracking) :
    s.servePreset c p = if s.passOpen && (ch == .xl || ch == .xr) then s.refuse .inPass
      else { state := s.afterPreset ch p, status := .ok } := by
  rw [State.servePreset, hc]
  dsimp only
  rw [countInRange_iff_natAbs.mpr hp]
  rcases hst with hst | hst <;> rw [hst] <;> rfl

end

/-- PRESET refused with a status. -/
theorem exec_preset_of_refused {s : State} {h : Header} {c : Nat} {p : Int} {st : Status}
    (hready : s.Ready h) (hserve : s.servePreset c p = s.refuse st) (htaken : st.taken = false) :
    exec (.preset h c p) s = .next (s.answered h 0x21 st []) := by
  have hanswer := State.request_answered hready (r := .preset c p) hserve hready.2.1
  rw [if_neg (by simp [State.refuse, htaken])] at hanswer
  exact congrArg Host.Outcome.next hanswer

/-- PRESET taken (02 R33). -/
theorem exec_preset_of_taken {s : State} {h : Header} {c : Nat} {p : Int} {ch : Channel}
    (hready : s.Ready h) (hserve : s.servePreset c p = { state := s.afterPreset ch p, status := .ok }) :
    exec (.preset h c p) s = .next ((s.afterPreset ch p).answered h 0x21 .ok []) :=
  congrArg Host.Outcome.next (State.request_answered hready (r := .preset c p) hserve
    ((congrArg LinkUnit.station (s.afterPreset_link ch p)).trans hready.2.1))

/-- 08 R145: a wait sees the new epoch of XL or XR from the sample after the newest on. -/
theorem State.epochMoved_of_waiting {s : State} {ch : Channel} {w : Wait} {k : Nat}
    (hw : s.reref.wait = some w) (hch : ch = .xl ∨ ch = .xr) (hk : s.newest = some k) :
    s.epochMoved ch = s.withReref
      { s.reref with wait := some { w with validFrom := max w.validFrom (nextIndex k) } } := by
  have hmove : s.epochMoved ch = s.moveValidFrom (nextIndex s.newestIndex) := by
    rcases hch with rfl | rfl <;> rfl
  rw [hmove, State.moveValidFrom, hw, State.newestIndex_of_some hk]

section
variable {s : State} {q : ChannelRequest} {f : ChannelFields}

theorem State.afterChannelSet_of_same
    (h : q.enable = true ∧ (s.chan q.channel).counter.state ≠ .off
      ∨ q.enable = false ∧ (s.chan q.channel).counter.state = .off) :
    s.afterChannelSet q f = s.setChan q.channel ((s.chan q.channel).settings q f) := by
  rcases h with ⟨hen, hst⟩ | ⟨hen, hst⟩ <;> simp [State.afterChannelSet, hen, hst]

theorem State.afterChannelSet_of_enable (hen : q.enable = true)
    (hoff : (s.chan q.channel).counter.state = .off) :
    s.afterChannelSet q f
      = (s.setChan q.channel ((s.chan q.channel).settings q f)).enableChannel q.channel :=
  if_pos ⟨hen, hoff⟩

theorem State.afterChannelSet_of_disable (hen : q.enable = false)
    (hon : (s.chan q.channel).counter.state ≠ .off) :
    s.afterChannelSet q f
      = (s.setChan q.channel ((s.chan q.channel).settings q f)).disableChannel q.channel := by
  simp [State.afterChannelSet, hen, hon]

end

theorem boolCode_eq_one_iff {b : Bool} : boolCode b = 1 ↔ b = true := by
  cases b <;> decide

theorem boolCode_eq_zero_iff {b : Bool} : boolCode b = 0 ↔ b = false := by
  cases b <;> decide

/-- Settles O51: the range tests, then the state each clause names; a disabled channel by what the fit unit,
the pass and the wait make of it. -/
theorem channelRequestsServed : Obligations.ChannelRequestsServed := by
  refine ⟨fun s h f ranges hready hranges => ?_, fun s h c p hready =>
    ⟨fun hout => exec_preset_of_refused hready (State.servePreset_of_out hout) rfl, ?_⟩⟩
  · rw [hranges, ← readChannelFields_isSome_iff]
    refine ⟨fun hout => exec_channelSet_of_out hready ?_, ?_⟩
    · exact Option.eq_none_iff_forall_ne_some.mpr fun q hq => hout ⟨q, hq⟩
    · rintro ⟨q, hq⟩ ch u v limit st data hch rfl rfl rfl rfl hv
      have hexec := exec_channelSet_of_in hready hq
      obtain ⟨hch', hen, -⟩ := readChannelFields_eq_some_iff.mp hq
      obtain rfl : ch = q.channel := Option.some.inj (hch.symm.trans hch')
      rw [← ChannelUnit.settings_eq hq] at hv
      rw [hen, boolCode_eq_one_iff, boolCode_eq_zero_iff, ← hen]
      refine ⟨fun hsame => ?_, fun hon hoff hwait => ?_, fun hoff hon => ?_⟩
      · rw [hexec, State.afterChannelSet_of_same hsame, ← hv]
        rfl
      · rw [hexec, State.afterChannelSet_of_enable hon hoff, ← hv,
          State.enableChannel_setChan v hoff hwait, hv]
        rfl
      · rw [State.afterChannelSet_of_disable hoff hon, ← hv] at hexec
        obtain ⟨hother, hcounter, hfront, hpending, hqueue, hworking, hresult⟩ :=
          s.fitDisabled_disableChannel q.channel v
        obtain ⟨hpassKept, hlost⟩ := s.disableChannel_pass q.channel v
        have hself : (s.countersOff q.channel v).chan q.channel
            = { v with counter := v.counter.disable } := State.chan_setChan_self _ _ _
        rw [hself] at hcounter hfront
        refine ⟨_, hexec, fun c hc => ?_, hcounter, hfront, hpending, hqueue, hworking, hresult, hpassKept,
          fun hmeasuring => ?_⟩
        · refine ⟨(hother c hc).1.trans ?_, (hother c hc).2⟩
          exact (State.chan_setChan _ _ _ _).trans (if_neg hc)
        · obtain ⟨hcontext, hidle, hpass, hreref⟩ := hlost hmeasuring
          refine ⟨hcontext, hidle, fun hopen => ?_, hreref⟩
          obtain ⟨hmem, htable, hlast⟩ := hpass hopen
          exact ⟨hmem, htable.trans (List.map_congr_left fun r _ => r.discard_eq), hlast⟩
  · rintro ch u hch rfl hp
    refine ⟨fun hst => ?_, fun hst hopen hmeasuring => ?_, fun hst hfree base hbase => ?_⟩
    · exact exec_preset_of_refused hready (State.servePreset_of_state hch hp hst) rfl
    · refine exec_preset_of_refused hready ?_ rfl
      rw [State.servePreset_of_counting hch hp hst, if_pos]
      rcases hmeasuring with rfl | rfl <;> simpa [State.passOpen, Option.isSome_iff_ne_none] using hopen
    · have hexec := exec_preset_of_taken hready (p := p) (ch := ch) (by
        rw [State.servePreset_of_counting hch hp hst, if_neg]
        rcases hfree with hclosed | rfl | rfl
        · simp [State.passOpen, hclosed]
        all_goals simp)
      have hafter : s.afterPreset ch p = base.epochMoved ch := by
        rw [hbase]
        rfl
      have hreref : base.reref = s.reref := by rw [hbase, State.withChannels_reref]
      have hnewest : base.newest = s.newest := by rw [hbase, State.withChannels_newest]
      rw [hafter] at hexec
      refine ⟨fun hunseen => ?_, fun w k hw hmeasuring hk => ?_⟩
      · rw [hexec, State.epochMoved_of_unseen (hreref ▸ hunseen)]
      · rw [hexec, State.epochMoved_of_waiting (hreref ▸ hw) hmeasuring (hnewest ▸ hk), hreref]

end Sys2Proof.Machine
end

/-! ### Unwrapping and the counter states (02 R17 to R25, R29) -/

section
namespace Sys2Proof.Machine

/-! #### Unwrapping (02 R17, R18) -/

/-- A wrapped phase difference is the one value of −512..511 that is congruent to it. -/
theorem wrapPhase_eq {d r : Int} (hlow : -512 ≤ r) (hhigh : r ≤ 511) (hmod : (d - r) % 1024 = 0) :
    wrapPhase d = r := by
  unfold wrapPhase
  omega

theorem clampCount_of_above {p : Int} (h : 140737488355327 < p) : clampCount p = 140737488355327 := by
  simp only [clampCount, clamp, Config.countMax]
  omega

theorem clampCount_of_below {p : Int} (h : p < -140737488355327) : clampCount p = -140737488355327 := by
  simp only [clampCount, clamp, Config.countMax]
  omega

namespace Counter

variable {c : Counter} {φ : Nat}

/-- 02 R18 steps 1 and 2: the residual against the prediction. -/
theorem residual_eq {r : Int} (hlow : -512 ≤ r) (hhigh : r ≤ 511)
    (hmod : ((c.lastPhase : Int) + c.lastStep + r - (φ : Int)) % 1024 = 0) : c.residual φ = r := by
  refine wrapPhase_eq hlow hhigh ?_
  unfold predicted modPhase
  omega

/-- 02 R18: a residual or a step that is too large is a slip, and so is a count out of its limits. -/
theorem unwrap_eq (c : Counter) (φ : Nat) :
    c.unwrap φ =
      if 384 < (c.residual φ).natAbs ∨ 2047 < (c.lastStep + c.residual φ).natAbs then .slip c.p
      else if (c.p + (c.lastStep + c.residual φ)).natAbs ≤ 140737488355327 then
        .passes (c.p + (c.lastStep + c.residual φ)) (c.lastStep + c.residual φ)
      else .slip (clampCount (c.p + (c.lastStep + c.residual φ))) := by
  simp only [unwrap, ite_or, countInRange_iff_natAbs]

end Counter

/-- Settles O7: with the residual known, the clauses are the branches of R18. -/
theorem unwrapAcceptsNearSteps : Obligations.UnwrapAcceptsNearSteps := by
  intro c φ r _ hlow hhigh hmod
  rw [c.unwrap_eq φ, Counter.residual_eq hlow hhigh hmod]
  refine ⟨fun hr hstep hp => ?_, fun hfar => if_pos hfar, fun hr hstep hp => ?_, fun hr hstep hp => ?_⟩
  · rw [if_neg (by omega), if_pos hp]
  · rw [if_neg (by omega), if_neg (by omega), clampCount_of_above hp]
  · rw [if_neg (by omega), if_neg (by omega), clampCount_of_below hp]

/-! #### One sample, by the state it finds (02 section 2.4) -/

namespace Counter

variable {c : Counter} {φ amp : Nat}

theorem arrive_of_off (h : c.state = .off) : c.arrive φ amp = c.quiet := by
  rw [arrive, h]

theorem arrive_of_dark (h : c.state = .dark) :
    c.arrive φ amp =
      if c.floor + 32 ≤ amp then
        if 63 ≤ c.acquireRun then
          { c with state := .unreferenced, lastPhase := φ, lastStep := 0, acquireRun := 0 }.quiet
        else { c with acquireRun := c.acquireRun + 1 }.quiet
      else { c with acquireRun := 0 }.quiet := by
  rw [arrive, h]
  simp only [Nat.reduceLeDiff]

/-- 02 R22, R24, R25: below the floor a channel without a reference goes to DARK, a referenced one coasts
until its run is used up. -/
theorem arrive_of_weak (hamp : amp < c.floor) :
    (c.state = .unreferenced → c.arrive φ amp = c.toDark false)
      ∧ (c.state = .tracking → c.arrive φ amp = c.coast 1)
      ∧ (c.state = .coasting → c.arrive φ amp =
        if c.coastRun < c.coastLimit then c.coast (c.coastRun + 1) else c.stopCoasting.toDark true) := by
  have hweak : ¬c.floor ≤ amp := Nat.not_le_of_lt hamp
  refine ⟨fun h => ?_, fun h => ?_, fun h => ?_⟩ <;> simp only [arrive, h, hweak, if_false]

/-- 02 R19, R20, R25: a slip. -/
theorem arrive_of_slip (hamp : c.floor ≤ amp) {p : Int} (hp : c.unwrap φ = .slip p) :
    (c.state = .unreferenced → c.arrive φ amp = c.slipped φ p false)
      ∧ (c.state = .tracking → c.arrive φ amp = c.slipped φ p true)
      ∧ (c.state = .coasting → c.arrive φ amp = c.stopCoasting.slipped φ p true) := by
  refine ⟨fun h => ?_, fun h => ?_, fun h => ?_⟩ <;> simp only [arrive, h, hamp, if_true, hp]

/-- 02 R18 step 6, R25: an accepted step. -/
theorem arrive_of_passes (hamp : c.floor ≤ amp) {p step : Int} (hp : c.unwrap φ = .passes p step) :
    (c.state = .unreferenced → c.arrive φ amp = c.accept .unreferenced φ p step)
      ∧ (c.state = .tracking → c.arrive φ amp = c.accept .tracking φ p step)
      ∧ (c.state = .coasting → c.arrive φ amp = c.stopCoasting.accept .tracking φ p step) := by
  refine ⟨fun h => ?_, fun h => ?_, fun h => ?_⟩ <;> simp only [arrive, h, hamp, if_true, hp]

/-! #### Coasting and trim travel -/

/-- 02 R23: extrapolation within the limits. -/
theorem coast_of_within (h : (c.p + c.lastStep).natAbs ≤ 140737488355327) (run : Nat) :
    c.coast run =
      { c with
        state := .coasting, p := c.p + c.lastStep
        lastPhase := (((c.lastPhase : Int) + c.lastStep) % 1024).toNat, coastRun := run }.quiet :=
  if_pos (countInRange_iff_natAbs.mpr h)

/-- 02 R24: extrapolation past a limit is an overrange slip at it. -/
theorem coast_of_past {q : Int} (h : (q = 140737488355327 ∧ q < c.p + c.lastStep)
    ∨ (q = -140737488355327 ∧ c.p + c.lastStep < q)) (run : Nat) :
    c.coast run =
      c.stopCoasting.slipped (((c.lastPhase : Int) + c.lastStep) % 1024).toNat q true := by
  have hout : ¬countInRange (c.p + c.lastStep) = true := by
    rw [countInRange_iff_natAbs]
    omega
  have hclamp : clampCount (c.p + c.lastStep) = q := by
    rcases h with ⟨rfl, h⟩ | ⟨rfl, h⟩
    · exact clampCount_of_above h
    · exact clampCount_of_below h
  exact (if_neg hout).trans (by rw [hclamp]; rfl)

/-- 02 R29: the travel starts again where trimming is off or the interval is reached. -/
theorem travelled_eq (c : Counter) (step : Int) :
    c.travelled step =
      (if c.trimInterval = 0 ∨ c.trimInterval * 1048576 ≤ c.trimTravel + step.natAbs then 0
        else c.trimTravel + step.natAbs,
      decide (0 < c.trimInterval ∧ c.trimInterval * 1048576 ≤ c.trimTravel + step.natAbs)) := by
  unfold travelled Config.trimUnit
  split
  next h => simp [h]
  next h =>
    have hpos : 0 < c.trimInterval := Nat.pos_of_ne_zero h
    split <;> simp_all

end Counter

open Counter in
/-- Settles O8: each row is one of the cases of an arrival, with the counter that case leaves. -/
theorem counterStateTable : Obligations.CounterStateTable := by
  intro c φ amp
  refine ⟨fun h => ?_, fun h hamp hrun => ?_, fun h hamp hrun => ?_, fun h hamp => ?_, fun h hamp => ?_,
    fun h hamp p hp => ?_, fun h hamp p hp => ?_, fun h hamp hp => ?_, fun h hamp hrun hp => ?_,
    fun h hamp q hq => ?_, fun h hamp hrun => ?_, fun h hamp p hp => ?_, fun h hamp p step hp => ?_⟩
  · exact arrive_of_off h ▸ ⟨rfl, rfl⟩
  · rw [arrive_of_dark h, if_pos hamp, if_pos (by omega)]
    exact ⟨rfl, rfl⟩
  · rw [arrive_of_dark h, if_pos hamp, if_neg (by omega)]
    exact ⟨rfl, rfl⟩
  · rw [arrive_of_dark h, if_neg (by omega)]
    exact ⟨rfl, rfl⟩
  · have ⟨hunreferenced, _, _⟩ := arrive_of_weak (φ := φ) hamp
    rw [hunreferenced h]
    exact ⟨rfl, rfl⟩
  · have ⟨hunreferenced, _, _⟩ := arrive_of_slip hamp hp
    rw [hunreferenced h]
    exact ⟨rfl, rfl⟩
  · have ⟨_, htracking, _⟩ := arrive_of_slip hamp hp
    rw [htracking h]
    exact ⟨rfl, rfl⟩
  · have ⟨_, htracking, _⟩ := arrive_of_weak (φ := φ) hamp
    rw [htracking h, coast_of_within hp]
    exact ⟨rfl, rfl⟩
  · have ⟨_, _, hcoasting⟩ := arrive_of_weak (φ := φ) hamp
    rw [hcoasting h, if_pos hrun, coast_of_within hp, ← h]
    exact ⟨rfl, rfl⟩
  · obtain ⟨run, hcoast⟩ : ∃ run, c.arrive φ amp = c.coast run := by
      have ⟨_, htracking, hcoasting⟩ := arrive_of_weak (φ := φ) hamp
      rcases h with h | ⟨h, hrun⟩
      · exact ⟨_, htracking h⟩
      · exact ⟨_, (hcoasting h).trans (if_pos hrun)⟩
    rw [hcoast, coast_of_past hq]
    exact ⟨rfl, rfl⟩
  · have ⟨_, _, hcoasting⟩ := arrive_of_weak (φ := φ) hamp
    rw [hcoasting h, if_neg (Nat.not_lt_of_le hrun)]
    exact ⟨rfl, rfl⟩
  · have ⟨_, _, hcoasting⟩ := arrive_of_slip hamp hp
    rw [hcoasting h]
    exact ⟨rfl, rfl⟩
  · intro reached hreached
    obtain ⟨hunreferenced, htracking, hcoasting⟩ := arrive_of_passes hamp hp
    rw [hreached]
    rcases h with h | h | h
    · rw [hunreferenced h]
      simp [accept, travelled_eq, h]
    · rw [htracking h]
      simp [accept, travelled_eq, h]
    · rw [hcoasting h]
      simp [accept, travelled_eq, stopCoasting, h]

end Sys2Proof.Machine
end

/-! ### Power-on reset (01 R14, 02 R37, 03 R56 and each block's reset table) -/

section
namespace Sys2Proof.Machine

/-- The part right after power-on reset, but for the fields the reset tables leave to the straps and to the
model (09 R166, log entry 25). -/
def State.resetWith (station : Option Byte) (straps : Nat) (restartLine : Bool) (free : Nat)
    (pending : List Instr) : State :=
  { State.reset with
    link := { LinkUnit.initial with station := station }
    straps := straps, restartLine := restartLine, freeCount := free, pending := pending }

theorem State.reset_eq : State.reset = .resetWith none 0 false 0 [] := rfl

/-- POWER_ON_RESET keeps the RESTART line's level and the waiting commands; the station is the straps'. -/
theorem State.powerOn_eq (s : State) (straps : Nat) :
    s.powerOn straps = .resetWith (stationOf straps) straps s.restartLine (s.freeCount + 1) s.pending :=
  rfl

theorem State.hasResetValues_resetWith (station : Option Byte) (straps : Nat) (restartLine : Bool)
    (free : Nat) (pending : List Instr) :
    (State.resetWith station straps restartLine free pending).HasResetValues := by
  have hattn : StatusUnit.initial.attn = false := by decide
  exact ⟨rfl, PerChannel.get_all _,
    ⟨rfl, rfl, PerChannel.get_all _, rfl, rfl, rfl, PerChannel.get_all _⟩,
    ⟨rfl, rfl, rfl, rfl, rfl, rfl, rfl, rfl, rfl, rfl, rfl, rfl⟩, rfl, rfl, rfl,
    ⟨rfl, rfl, rfl, rfl, rfl, rfl, rfl, rfl, rfl⟩, ⟨rfl, rfl⟩, ⟨rfl, rfl, rfl, rfl, rfl, rfl, rfl⟩,
    ⟨rfl, rfl, rfl, rfl, rfl, rfl, rfl⟩, Event.mem_restarted_single, rfl, hattn⟩

/-- Settles O34: State.reset and the state after POWER_ON_RESET differ from one another only in fields the
reset tables do not give. -/
theorem powerOnResetValues : Obligations.PowerOnResetValues := by
  refine ⟨?_, fun straps s => ⟨s.powerOn straps, rfl, ?_, ?_⟩⟩
  · rw [State.reset_eq]
    exact State.hasResetValues_resetWith ..
  · rw [State.powerOn_eq]
    exact State.hasResetValues_resetWith ..
  · rw [State.powerOn_eq]
    exact stationOf_spec straps

end Sys2Proof.Machine
end

/-! ### The events of the fit unit (02 R26, R35, 03 R43 to R54) -/

section
namespace Sys2Proof.Machine

/-! #### What no event of the fit unit moves (02 R26, 03 R49, R51) -/

/-- Every channel keeps its count, step, epoch and state. -/
def State.KeepsCounts (s t : State) : Prop :=
  ∀ c, (t.chan c).counter.p = (s.chan c).counter.p
    ∧ (t.chan c).counter.lastStep = (s.chan c).counter.lastStep
    ∧ (t.chan c).counter.epoch = (s.chan c).counter.epoch
    ∧ (t.chan c).counter.state = (s.chan c).counter.state

namespace State.KeepsCounts

variable {s t u : State}

theorem of_channels (h : t.channels = s.channels) : s.KeepsCounts t := by
  intro c
  rw [State.chan, h]
  exact ⟨rfl, rfl, rfl, rfl⟩

theorem trans (h : s.KeepsCounts t) (h' : t.KeepsCounts u) : s.KeepsCounts u := by
  intro c
  obtain ⟨hp, hstep, hepoch, hstate⟩ := h c
  obtain ⟨hp', hstep', hepoch', hstate'⟩ := h' c
  exact ⟨hp'.trans hp, hstep'.trans hstep, hepoch'.trans hepoch, hstate'.trans hstate⟩

/-- A channel may take a new front end and a new last phase. -/
theorem setChan (s : State) (ch : Channel) (fe : FrontEnd) (φ : Nat) :
    s.KeepsCounts (s.setChan ch ⟨fe, { (s.chan ch).counter with lastPhase := φ }⟩) := by
  intro c
  rw [State.chan_setChan]
  split
  next h => exact h ▸ ⟨rfl, rfl, rfl, rfl⟩
  next => exact ⟨rfl, rfl, rfl, rfl⟩

theorem swap (s : State) (ch : Channel) (new : EllipseSet) (c v : Int) :
    s.KeepsCounts (s.swap ch new c v) := setChan s ch _ _

theorem installNominal (s : State) (ch : Channel) : s.KeepsCounts (s.installNominal ch) :=
  setChan s ch { (s.chan ch).front with params := .nominal } (s.chan ch).counter.lastPhase

theorem installPending (s : State) (ch : Channel) : s.KeepsCounts (s.installPending ch) := by
  unfold State.installPending
  dsimp only
  split
  · exact swap (s.clearPendingReset ch) ch _ _ _
  · exact swap (s.clearPendingReset ch) ch _ _ _
  · exact installNominal (s.clearPendingReset ch) ch

theorem fitStart (s : State) : s.KeepsCounts s.fitStart := by
  obtain ⟨f, u, a, h⟩ := s.fitStart_shape
  exact of_channels (h ▸ rfl)

theorem fitTimeout (s : State) : s.KeepsCounts s.fitTimeout := by
  obtain ⟨f, u, h⟩ := s.fitTimeout_shape
  exact of_channels (h ▸ rfl)

theorem fitFinish (s : State) : s.KeepsCounts s.fitFinish := by
  unfold State.fitFinish
  dsimp only
  split
  · exact of_channels rfl
  · split
    · exact of_channels rfl
    · split
      · exact of_channels rfl
      · split
        · exact of_channels rfl
        · exact swap s _ _ _ _

/-! The due marks are not the channels'. -/

theorem takeFitBegin (s : State) : s.KeepsCounts s.takeFitBegin := by
  unfold State.takeFitBegin
  split
  · exact fitStart (s.withArrival _)
  · exact of_channels rfl

theorem takeFitComplete (s : State) : s.KeepsCounts s.takeFitComplete := by
  unfold State.takeFitComplete
  split
  · exact fitFinish (s.withArrival _)
  · exact of_channels rfl

theorem takeFitTimer (s : State) (lead : Nat) : s.KeepsCounts (s.takeFitTimer lead) := by
  unfold State.takeFitTimer
  split
  · exact fitTimeout s
  · exact of_channels rfl

theorem takeResetInstall (s : State) (ch : Channel) : s.KeepsCounts (s.takeResetInstall ch) := by
  unfold State.takeResetInstall
  split
  · exact installPending (s.withArrival _) ch
  · exact of_channels rfl

end State.KeepsCounts

/-- Settles O30: of what the fit unit's events do, only a swap or an installation touches a channel. -/
theorem fitEventsKeepCounts : Obligations.FitEventsKeepCounts := by
  intro s ch i hi
  simp only [List.mem_cons, List.not_mem_nil, or_false] at hi
  rcases hi with rfl | rfl | rfl | rfl | rfl
  · exact ⟨_, rfl, State.KeepsCounts.takeFitBegin s⟩
  · exact ⟨s.takeSlotFill, rfl, State.KeepsCounts.of_channels rfl⟩
  · exact ⟨_, rfl, State.KeepsCounts.takeFitComplete s⟩
  · exact ⟨_, rfl, State.KeepsCounts.takeFitTimer s 1⟩
  · exact ⟨_, rfl, State.KeepsCounts.takeResetInstall s ch⟩

/-! #### The completion of a fit (03 R44, R47 to R49, R54) -/

/-- 03 R42, R54: the working fit of a channel ends with a record and the slot empties. -/
def State.closeFit (s : State) (ch : Channel) (record : FitResult) : State :=
  (s.fitOutcome ch record).withFit (s.fitOutcome ch record).fit.emptySlot

theorem State.closeFit_chan (s : State) (ch c : Channel) (record : FitResult) :
    (s.closeFit ch record).chan c = s.chan c := rfl

theorem State.closeFit_result (s : State) (ch c : Channel) (record : FitResult) :
    (s.closeFit ch record).fit.result.get c = if c = ch then some record else s.fit.result.get c :=
  State.fitOutcome_result record

/-- What the ending of a working fit leaves of the fit unit, and the event it raises. -/
structure State.SlotEmptied (s t : State) : Prop where
  working : t.fit.working = none
  timer : t.fit.timer = none
  acc : t.fit.acc = ⟨0, 0, 0, none⟩
  queue : t.fit.queue = s.fit.queue
  pendingReset : t.fit.pendingReset = s.fit.pendingReset
  fitDone : Event.fitDone.mem t.status.sticky = true

theorem State.slotEmptied_closeFit {s t : State} (h : t.fit = s.fit) (ch : Channel) (record : FitResult) :
    s.SlotEmptied (t.closeFit ch record) where
  working := rfl
  timer := rfl
  acc := rfl
  queue := show t.fit.queue = s.fit.queue from congrArg FitUnit.queue h
  pendingReset := show t.fit.pendingReset = s.fit.pendingReset from congrArg FitUnit.pendingReset h
  fitDone := by
    have hraise := (t.putFitResult ch record).mem_raise .fitDone .fitDone
    rw [decide_eq_true rfl, Bool.or_true] at hraise
    exact hraise

/-- 03 R44, R47, R48: what the arithmetic of its kind makes of the working fit's extremes. -/
def State.computed (s : State) (r : FitRequest) : Computed :=
  fitArithmetic r.kind (s.chan r.channel).counter.floor (s.chan r.channel).front.params s.fit.acc.extremes

/-- The record of a completed fit before its jump is known (03 section 3.8). -/
def State.completedRecord (s : State) (r : FitRequest) : FitResult :=
  { s.workingRecord r .rejectedWeak with
    halfAxes := (s.computed r).halfAxes, newSet := (s.computed r).newSet
    weakOffsets := (s.computed r).weakOffsets }

/-- 03 R54: the record of a completed fit that has a new set, with its jump. -/
def State.jumpRecord (s : State) (r : FitRequest) (d : Int) : FitResult :=
  { s.completedRecord r with
    outcome :=
      if 64 < d.natAbs then .rejectedJump
      else if (s.computed r).clamped then .appliedClamped else .applied
    jump := some d, weakOffsets := none }

section
variable {s : State} {r : FitRequest} {m : ChannelSample}

/-- 03 R47, R48: without a new set the channel stays as it is. -/
theorem State.fitFinish_of_none (hw : s.fit.working = some r)
    (hm : s.arrival.samples.get r.channel = some m) (hnew : (s.computed r).newSet = none) :
    s.fitFinish = s.closeFit r.channel (s.completedRecord r) := by
  have hnew' := hnew
  rw [State.computed] at hnew'
  simp only [State.fitFinish, hw, hm, hnew', State.completedRecord, hnew]
  rfl

/-- 03 R49: a new set is installed unless the jump is too large. -/
theorem State.fitFinish_of_some (hw : s.fit.working = some r)
    (hm : s.arrival.samples.get r.channel = some m) {new : EllipseSet}
    (hnew : (s.computed r).newSet = some new) {d : Int}
    (hd : swapJump (s.chan r.channel).front.sense (s.chan r.channel).front.params new m.c m.s = d) :
    s.fitFinish =
      (if 64 < d.natAbs then s else s.swap r.channel new m.c m.s).closeFit r.channel
        (s.jumpRecord r d) := by
  have hnew' := hnew
  rw [State.computed] at hnew'
  simp only [State.fitFinish, hw, hm, hnew', hd, State.jumpRecord, State.completedRecord, hnew]
  split <;> rfl

/-- A fit that completes closes on a part that differs at most in the fit's channel. -/
theorem State.fitFinish_closes (hw : s.fit.working = some r)
    (hm : s.arrival.samples.get r.channel = some m) :
    ∃ (t : State) (record : FitResult), s.fitFinish = t.closeFit r.channel record ∧ t.fit = s.fit
      ∧ ∀ c, c ≠ r.channel → t.chan c = s.chan c := by
  cases hnew : (s.computed r).newSet with
  | none => exact ⟨s, _, State.fitFinish_of_none hw hm hnew, rfl, fun _ _ => rfl⟩
  | some new =>
    refine ⟨_, _, State.fitFinish_of_some hw hm hnew rfl, ?_⟩
    split
    · exact ⟨rfl, fun _ _ => rfl⟩
    · exact ⟨rfl, fun c hc => (s.chan_setChan r.channel c _).trans (if_neg hc)⟩

end

/-- Settles O29: the completed fit closes with its record, on the channel as it is or after a swap. -/
theorem fitCompletes : Obligations.FitCompletes := by
  refine ⟨fun floor old e => ⟨rfl, rfl, fun kind => rfl⟩, fun s => ⟨fun hdue => ?_, ?_⟩⟩
  · simp [exec, execFitComplete, State.takeFitComplete, hdue]
  rintro r m k q base u hdue hw hk hm rfl rfl rfl
  obtain ⟨t, ht⟩ : ∃ t, t = s.withArrival { s.arrival with fitComplete := false } := ⟨_, rfl⟩
  have hexec : exec .fitComplete s = .next t.fitFinish := by
    simp [exec, execFitComplete, State.takeFitComplete, hdue, ht]
  have hrecord : t.completedRecord r = { s.completedRecord r with endSample := k } := by
    rw [← State.newestIndex_of_some hk, ht]
    rfl
  have hwt : t.fit.working = some r := ht ▸ hw
  have hmt : t.arrival.samples.get r.channel = some m := ht ▸ hm
  obtain ⟨v, record, hclose, hfit, hother⟩ := State.fitFinish_closes hwt hmt
  have hempty : s.SlotEmptied t.fitFinish :=
    hclose ▸ State.slotEmptied_closeFit (hfit.trans (ht ▸ rfl)) r.channel record
  refine ⟨_, hexec, hempty.working, hempty.timer, hempty.acc, hempty.queue,
    hempty.pendingReset, hempty.fitDone, fun ch hch => ?_, fun hnew => ?_, fun new d hnew hlow hhigh hmod => ?_⟩
  · rw [hclose, State.closeFit_chan, State.closeFit_result, if_neg hch, hother ch hch, hfit, ht]
    exact ⟨rfl, rfl⟩
  · have hnewt : (t.computed r).newSet = none := ht ▸ hnew
    rw [State.fitFinish_of_none hwt hmt hnewt, State.closeFit_result, if_pos rfl, hrecord]
    exact ⟨ht ▸ rfl, rfl⟩
  · have hnewt : (t.computed r).newSet = some new := ht ▸ hnew
    have hjump : swapJump (t.chan r.channel).front.sense (t.chan r.channel).front.params new m.c m.s = d :=
      ht ▸ wrapPhase_eq hlow hhigh hmod
    have hclamped : (t.computed r).clamped = (s.computed r).clamped := ht ▸ rfl
    rw [State.fitFinish_of_some hwt hmt hnewt hjump, State.closeFit_result, if_pos rfl,
      State.closeFit_chan, State.jumpRecord, hrecord, hclamped]
    refine ⟨fun hfar => ?_, fun hnear => ?_⟩
    · rw [if_pos hfar, if_pos hfar]
      exact ⟨ht ▸ rfl, rfl⟩
    · rw [if_neg (Nat.not_lt_of_le hnear), if_neg (Nat.not_lt_of_le hnear)]
      exact ⟨(t.chan_setChan_self r.channel _).trans (ht ▸ rfl), rfl⟩

end Sys2Proof.Machine
end

/-! ### A capture that answers a wait (08 R145 to R148, 02 R34) -/

section
namespace Sys2Proof.Machine

/-! #### The capture that reference control receives -/

/-- 05 R79: an entry is found under its own index. -/
theorem AxisUnit.index_of_entry {a : AxisUnit} {k : Nat} {e : WindowEntry} (h : a.entry k = some e) :
    e.index = k := by
  rw [AxisUnit.entry] at h
  simpa using List.find?_some h

/-- A capture reads neither the line input nor what is in flight. -/
theorem State.formCapture_withLine (s : State) (l : LineInput) (tOff : Nat) (e0 e1 : WindowEntry) :
    (s.withLine l).formCapture tOff e0 e1 = s.formCapture tOff e0 e1 := rfl

/-- 05 R84, R89: with nothing of its arrival still due, a capture whose two entries are present goes to
reference control while it is WAITING. -/
theorem State.takeCapture_of_waiting {s : State} {w : Wait} {b : InFlight} {e0 e1 : WindowEntry}
    (hage : s.arrival.ageTick = false) (hfit : s.arrival.fitBegin = false)
    (hreset : s.arrival.resetInstall = .all false) (hcheck : s.arrival.check = false)
    (hreport : s.arrival.report = false) (hw : s.reref.wait = some w) (hb : s.line.inFlight = some b)
    (h0 : s.axis.entry b.k = some e0) (h1 : s.axis.entry (nextIndex b.k) = some e1) :
    s.takeCapture
      = (s.withLine { s.line with inFlight := none }).rerefCapture (s.formCapture b.tOff e0 e1) := by
  have hentries : s.bracketEntries b = some (e0, e1) := by rw [State.bracketEntries, h0, h1]
  have hdue : s.captureDue = true := by rw [State.captureDue, hb]; simp [hentries]
  have hwaiting : s.waiting = true := by rw [State.waiting, hw]; rfl
  simp only [State.takeCapture, hdue, hwaiting, if_true, State.takeAgeTick, State.takeFitBegin,
    State.takeCheck, State.takeReport, hage, hfit, hcheck, hreport, Bool.false_eq_true, if_false,
    State.takeResetInstalls_of_idle hreset, State.completeCapture, hb, hentries,
    State.formCapture_withLine]
  exact if_pos hwaiting

section
variable {s : State} {w : Wait} {c : Capture}

/-- 08 R145: a capture of before the valid-from sample is discarded. -/
theorem State.rerefCapture_of_early (hw : s.reref.wait = some w) (hk : c.k < w.validFrom) :
    s.rerefCapture c =
      s.withReref
        { s.reref with wait := some { w with discarded := satInc Config.top16 w.discarded } } := by
  simp only [State.rerefCapture, hw, hk, if_true]

/-- 08 R148: an ending of a wait, with the record it writes. -/
theorem State.finishWait_eq (hw : s.reref.wait = some w) (outcome : RerefOutcome)
    (capture : Option RerefCapture) (applied : Option RerefApplied) :
    s.finishWait outcome capture applied =
      (s.withReref
        { wait := none
          result := some
            { outcome := outcome, line := w.line, accepting := w.accepting, endSample := s.newestIndex
              discarded := w.discarded, capture := capture, applied := applied } }).raise .rerefEnd := by
  simp only [State.finishWait, State.waiting, State.endWait, hw, Option.isSome_some, if_true]

/-- 08 R146: a capture without motion ends the wait. -/
theorem State.rerefCapture_of_still (hw : s.reref.wait = some w) (hk : w.validFrom ≤ c.k)
    (hc : c.direction = .none) :
    s.rerefCapture c = s.finishWait .failedNoMotion (some c.kept) none := by
  simp only [State.rerefCapture, hw, Nat.not_lt_of_le hk, if_false, hc, Motion.direction,
    Option.bind_none]

/-- 08 R146: a motion takes the target of its own half, or of the other where its own is absent. -/
theorem Wait.choose_of_motion {motion : Motion} {half : Direction} {target : Int}
    (h : motion = .fwd ∧ (w.targetFwd = some target ∧ half = .fwd
        ∨ w.targetFwd = none ∧ w.targetRev = some target ∧ half = .rev)
      ∨ motion = .rev ∧ (w.targetRev = some target ∧ half = .rev
        ∨ w.targetRev = none ∧ w.targetFwd = some target ∧ half = .fwd)) :
    motion.direction.bind w.choose = some (half, target) := by
  rcases h with ⟨rfl, ⟨hf, rfl⟩ | ⟨hf, hr, rfl⟩⟩ | ⟨rfl, ⟨hr, rfl⟩ | ⟨hr, hf, rfl⟩⟩
  · simp [Motion.direction, Wait.choose, hf]
  · simp [Motion.direction, Wait.choose, hf, hr]
  · simp [Motion.direction, Wait.choose, hr]
  · simp [Motion.direction, Wait.choose, hf, hr]

theorem State.rerefCapture_of_target (hw : s.reref.wait = some w) (hk : w.validFrom ≤ c.k)
    {half : Direction} {target : Int}
    (hchoose : c.direction.direction.bind w.choose = some (half, target)) :
    s.rerefCapture c = s.applyDatum c half target := by
  simp only [State.rerefCapture, hw, Nat.not_lt_of_le hk, if_false, hchoose]

/-- 08 R147, 02 R34: XL and XR re-based, and the previous check X cleared. -/
def State.rebased (s : State) (dpXL dpXR rEff : Int) : State :=
  (s.withChannels
    { s.channels with
      xl := { s.channels.xl with counter := s.channels.xl.counter.rebase dpXL rEff }
      xr := { s.channels.xr with counter := s.channels.xr.counter.rebase dpXR rEff } }).withPass
    { s.pass with prevX := none }

/-- 08 R147: the datum capture re-bases XL and XR and ends the wait DONE. -/
theorem State.applyDatum_eq (hw : s.reref.wait = some w) (half : Direction) {target : Int}
    {pathXL pathXR dpXL dpXR : Int} (hpXL : pathXL = pathTerm c.pXL c.wEff)
    (hpXR : pathXR = pathTerm c.pXR c.wEff) (hdXL : dpXL = correctionOf target pathXL c.wEff)
    (hdXR : dpXR = correctionOf target pathXR c.wEff) :
    s.applyDatum c half target =
      ((s.rebased dpXL dpXR c.rEff).withReref
        { wait := none
          result := some
            { outcome := .done, line := w.line, accepting := w.accepting, endSample := s.newestIndex
              discarded := w.discarded, capture := some c.kept
              applied := some ⟨half, target, pathXL, pathXR, dpXL, dpXR⟩ } }).raise .rerefEnd := by
  subst hpXL hpXR hdXL hdXR
  exact State.finishWait_eq (s := s.rebased _ _ c.rEff) hw .done (some c.kept) (some _)

end

/-- Settles O23: the capture goes to reference control, and each clause is one of its cases. -/
theorem captureAnswersWait : Obligations.CaptureAnswersWait := by
  intro s u w b e0 e1 c n kept hage hfit hreset hcheck hreport hn hw hb h0 h1 hc hu hkept
  have hexec : exec .captureFormed s = .next (u.rerefCapture c) := by
    rw [hu, hc]
    exact congrArg Host.Outcome.next
      (State.takeCapture_of_waiting hage hfit hreset hcheck hreport hw hb h0 h1)
  have hwu : u.reref.wait = some w := hu ▸ hw
  have hnewest : u.newestIndex = n := State.newestIndex_of_some (hu ▸ hn)
  have hk : c.k = b.k := hc ▸ AxisUnit.index_of_entry h0
  have hkeep : c.kept = kept := by rw [hkept, hc]; rfl
  rw [hexec, ← hk]
  refine ⟨fun hearly => ?_, fun hvalid hstill => ?_, ?_⟩
  · rw [State.rerefCapture_of_early hwu hearly, hu]
    rfl
  · rw [State.rerefCapture_of_still hwu hvalid hstill, State.finishWait_eq hwu, hnewest, hkeep]
  · intro half target hvalid htarget pathXL pathXR dpXL dpXR hpXL hpXR hdXL hdXR
    rw [State.rerefCapture_of_target hwu hvalid (Wait.choose_of_motion htarget),
      State.applyDatum_eq hwu half hpXL hpXR hdXL hdXR, hnewest, hkeep, hu]
    rfl

end Sys2Proof.Machine
end

/-! ### Reading requests (06 R109 to R112, 02 R36, 03 R55, 04 R72, 07 R129, 08 R149) -/

section
namespace Sys2Proof.Machine

/-! #### Fields of sent values (11 R177) -/

@[simp] theorem beBytes_length (w n : Nat) : (beBytes w n).length = w := by
  induction w with
  | zero => rfl
  | succ w ih => rw [beBytes, List.length_cons, ih]

theorem beNat_cons (b : Byte) (bs : Bytes) : beNat (b :: bs) = b.toNat * 256 ^ bs.length + beNat bs := by
  have hacc (acc : Nat) : bs.foldl (fun a b => 256 * a + b.toNat) acc = acc * 256 ^ bs.length + beNat bs := by
    induction bs generalizing acc with
    | nil => simp [beNat]
    | cons c bs ih =>
      rw [beNat, List.foldl_cons, List.foldl_cons, ih, ih, List.length_cons, pow_succ]
      ring
  rw [← hacc, beNat, List.foldl_cons, mul_zero, zero_add]

/-- 11 R177: a field holds the value's low bytes. -/
theorem beNat_beBytes (w n : Nat) : beNat (beBytes w n) = n % 256 ^ w := by
  induction w with
  | zero => rw [pow_zero, Nat.mod_one]; rfl
  | succ w ih =>
    rw [beBytes, beNat_cons, beBytes_length, ih, BitVec.toNat_ofNat, pow_succ 256 w, Nat.mod_mul]
    ring

@[simp] theorem sentU_length (w n : Nat) : (sentU w n).length = w := beBytes_length w _

@[simp] theorem sentS_length (w : Nat) (i : Int) : (sentS w i).length = w := beBytes_length w _

@[simp] theorem sentB_length (n : Nat) : (sentB n).length = 1 := sentU_length 1 n

@[simp] theorem sentFlag_length (b : Bool) : (sentFlag b).length = 1 := sentB_length _

@[simp] theorem sentOpt_length {α : Type} {w : Nat} {field : α → Bytes} (h : ∀ v, (field v).length = w)
    (o : Option α) : (sentOpt w field o).length = 1 + w := by
  cases o <;> simp [sentOpt, h]

/-- 11 R177: an unsigned field saturates. -/
theorem beNat_sentU (w n : Nat) : beNat (sentU w n) = min n (256 ^ w - 1) := by
  have hpos : 0 < 256 ^ w := by positivity
  rw [sentU, beNat_beBytes, Nat.mod_eq_of_lt (by omega)]

/-- 11 R177: two's complement of a value in range is read back. -/
theorem toSigned_ofSigned {w : Nat} (hw : 1 ≤ w) {i : Int} (hlow : -((256 ^ w / 2 : Nat) : Int) ≤ i)
    (hhigh : i < ((256 ^ w / 2 : Nat) : Int)) : toSigned w (ofSigned w i) = i := by
  have heven : 256 ^ w / 2 * 2 = 256 ^ w := by
    rw [Nat.div_mul_cancel]
    exact dvd_pow (by decide) (by omega)
  unfold toSigned ofSigned
  generalize 256 ^ w = m at *
  rcases lt_or_ge i 0 with hi | hi
  · have hmod : i % (m : Int) = i + m := by
      rw [← Int.add_emod_right, Int.emod_eq_of_lt (by omega) (by omega)]
    rw [hmod, if_neg (by omega)]
    omega
  · rw [Int.emod_eq_of_lt hi (by omega), if_pos (by omega)]
    omega

/-- 11 R177: a signed field saturates at both ends. -/
theorem toSigned_sentS {w : Nat} (hw : 1 ≤ w) (i : Int) :
    toSigned w (beNat (sentS w i)) =
      max (-((256 ^ w / 2 : Nat) : Int)) (min (((256 ^ w / 2 : Nat) : Int) - 1) i) := by
  have hhalf : 1 ≤ 256 ^ w / 2 := by
    have := Nat.pow_le_pow_right (show 0 < 256 by decide) hw
    omega
  rw [sentS, sBytes, beNat_beBytes]
  have hmem := clamp_mem (lo := -((256 ^ w / 2 : Nat) : Int)) (hi := ((256 ^ w / 2 : Nat) : Int) - 1)
    (by omega) i
  have hfits (j : Int) : ofSigned w j % 256 ^ w = ofSigned w j := by
    have hpos : 0 < 256 ^ w := by positivity
    refine Nat.mod_eq_of_lt ?_
    unfold ofSigned
    generalize 256 ^ w = m at *
    have := Int.emod_lt_of_pos j (show (0 : Int) < m by omega)
    omega
  rw [hfits, toSigned_ofSigned hw hmem.1 (by omega)]
  rfl

/-! #### Lengths of what is sent -/

@[simp] theorem halfBlock_length (nominal : Int) (h : Option Half) : (halfBlock nominal h).length = 68 := by
  cases h <;> simp [halfBlock]

@[simp] theorem pendingBlock_length (p : Option PendingPart) : (pendingBlock p).length = 19 := by
  cases p <;> simp [pendingBlock]

@[simp] theorem LineRecord.readData_length (r : LineRecord) : r.readData.length = 186 := by
  simp [readData]

@[simp] theorem foundBlock_length (x : Int) (r : LineRecord) : (foundBlock x r).length = 25 := by
  simp [foundBlock]

@[simp] theorem sideBlock_length (r : LineRecord) : (sideBlock r).length = 10 := by
  simp [sideBlock]

@[simp] theorem LineRecord.stepData_length (r : LineRecord) : r.stepData.length = 28 := by
  simp [stepData]

@[simp] theorem summaryData_length (t : List LineRecord) : (summaryData t).length = 48 := by
  simp [summaryData, List.length_flatMap]

@[simp] theorem EllipseSet.data_length (e : EllipseSet) : e.data.length = 8 := by
  simp [data]

@[simp] theorem ChannelUnit.data_length (u : ChannelUnit) (k : Nat) : (u.data k).length = 64 := by
  unfold data
  simp

@[simp] theorem Extremes.data_length (e : Extremes) : e.data.length = 10 := by
  simp [data]

@[simp] theorem FitResult.data_length (r : FitResult) : r.data.length = 61 := by
  simp [data]

@[simp] theorem State.lengthData_length (s : State) (ch : Channel) : (s.lengthData ch).length = 7 := by
  simp [lengthData]

@[simp] theorem PassCounters.data_length (c : PassCounters) : c.data.length = 28 := by
  simp [data]

@[simp] theorem PassContext.data_length (c : PassContext) : c.data.length = 56 := by
  simp [data]

@[simp] theorem PassSummary.data_length (m : PassSummary) : m.data.length = 68 := by
  simp [data]

@[simp] theorem Position.data_length (p : Position) : p.data.length = 19 := by
  simp [data]

@[simp] theorem Wait.data_length (k : Nat) (w : Wait) : (w.data k).length = 46 := by
  simp [data]

@[simp] theorem RerefCapture.data_length (c : RerefCapture) : c.data.length = 33 := by
  simp [data]

@[simp] theorem RerefResult.data_length (r : RerefResult) : r.data.length = 92 := by
  simp [data]

/-! #### Requests that only read -/

/-- A served request that leaves the part as it is, brings nothing else, and whose data fit a frame. -/
structure Served.Reads (v : Served) (s : State) : Prop where
  state : v.state = s
  after : v.after = .nothing
  fits : v.data.length ≤ 247

theorem State.reads_refuse (s : State) (st : Status) : (s.refuse st).Reads s :=
  ⟨rfl, rfl, Nat.zero_le _⟩

section
variable (s : State)

theorem State.reads_serveRead (line : Int) : (s.serveRead line).Reads s := by
  unfold State.serveRead
  split
  · exact s.reads_refuse _
  · exact ⟨rfl, rfl, by simp⟩

theorem State.reads_serveFind (x : Int) : (s.serveFind x).Reads s :=
  ⟨rfl, rfl, by simp [State.serveFind]⟩

theorem State.reads_serveStep (f : StepFields) : (s.serveStep f).Reads s := by
  unfold State.serveStep
  split
  · exact s.reads_refuse _
  · split
    · exact s.reads_refuse _
    · exact s.reads_refuse _
    · exact ⟨rfl, rfl, by simp⟩

theorem State.reads_serveSummary : s.serveSummary.Reads s :=
  ⟨rfl, rfl, by simp [State.serveSummary]⟩

theorem State.reads_serveReadChannel (ch : Nat) : (s.serveReadChannel ch).Reads s := by
  unfold State.serveReadChannel
  split
  · exact s.reads_refuse _
  · exact ⟨rfl, rfl, by simp⟩

theorem State.reads_serveFitResult (ch : Nat) : (s.serveFitResult ch).Reads s := by
  unfold State.serveFitResult
  split
  · exact s.reads_refuse _
  · exact ⟨rfl, rfl, by simp⟩

theorem State.reads_serveReadAir : s.serveReadAir.Reads s :=
  ⟨rfl, rfl, by simp [State.serveReadAir]⟩

theorem State.reads_serveReadPass : s.serveReadPass.Reads s :=
  ⟨rfl, rfl, by simp [State.serveReadPass]⟩

theorem State.reads_serveRerefResult : s.serveRerefResult.Reads s :=
  ⟨rfl, rfl, by simp [State.serveRerefResult]⟩

end

section
variable {s : State} {h : Header} {i : Instr} {r : Request}

/-- 09 R159: a request that only reads is answered, and only the link's service changes. -/
theorem exec_of_reads (q : s.Ready h) (hi : i.request = some (h, r)) (hv : (s.serve r).Reads s) :
    exec i s = .next (s.answered h r.code (s.serve r).status
      (if (s.serve r).status.taken then (s.serve r).data else [])) := by
  have hanswer := State.request_answered q (r := r) rfl
    ((congrArg (fun t : State => t.link.station) hv.state).trans q.2.1)
  rw [exec_of_request hi, hanswer, hv.state, hv.after]

/-- Such a request is answered with data that fit a frame; what is asked of the status is known of the
owner's. -/
theorem answered_of_reads {P : Status → Prop} (q : s.Ready h) (hi : i.request = some (h, r))
    (hv : (s.serve r).Reads s) (hP : P (s.serve r).status) :
    ∃ (st : Status) (data : Bytes), exec i s = .next (s.answered h r.code st data)
      ∧ data.length ≤ 247 ∧ P st := by
  refine ⟨_, _, exec_of_reads q hi hv, ?_, hP⟩
  split
  · exact hv.fits
  · exact Nat.zero_le _

/-- The answer of a request that is taken OK. -/
theorem exec_ok_of_reads (q : s.Ready h) (hi : i.request = some (h, r)) (hv : (s.serve r).Reads s)
    (hst : (s.serve r).status = .ok) {data : Bytes} (hdata : (s.serve r).data = data) :
    exec i s = .next (s.answered h r.code .ok data) := by
  rw [exec_of_reads q hi hv, hst, ← hdata]
  rfl

end

end Sys2Proof.Machine
end

/-! ### The data of the reading requests (06 R112, 02 R36, 03 R55, 04 R72, 07 R129, 08 R149) -/

section
namespace Sys2Proof.Machine

/-! #### Codes and counts -/

theorem boolCode_isSome {α : Type} (o : Option α) [Decidable (o = none)] :
    boolCode o.isSome = if o = none then 0 else 1 := by
  cases o <;> simp [boolCode]

/-- 06 R112: the classes in ascending order. -/
theorem flatMap_range_eight (f : Nat → Bytes) :
    (List.range 8).flatMap f = f 0 ++ f 1 ++ f 2 ++ f 3 ++ f 4 ++ f 5 ++ f 6 ++ f 7 := by
  simp [List.range_succ]

/-! #### The place of a channel's request (03 R55) -/

section
variable {f : FitUnit} {ch : Channel}

theorem FitUnit.place_of_working {r : FitRequest} (hr : f.working = some r) (hch : r.channel = ch) :
    f.place ch = (1, some f.acc, none) := by
  simp only [FitUnit.place, hr, hch, if_true]

theorem FitUnit.place_of_not_working (h : ∀ r, f.working = some r → r.channel ≠ ch) :
    f.place ch =
      ((f.queue.findIdx? (fun q => q.channel == ch)).elim
        (if f.pendingReset.get ch then 3 else 0, none, none) (fun i => (2, none, some (i + 1)))) := by
  unfold FitUnit.place
  split
  next r hr =>
    rw [if_neg (h r hr)]
    split <;> simp [*]
  next => split <;> simp [*]

theorem findIdx?_channel {before after : List FitRequest} {r : FitRequest} (hr : r.channel = ch)
    (hbefore : ∀ q ∈ before, q.channel ≠ ch) :
    (before ++ r :: after).findIdx? (fun q => q.channel == ch) = some before.length := by
  have hnone : before.findIdx? (fun q => q.channel == ch) = none := by
    simpa [List.findIdx?_eq_none_iff] using hbefore
  simp [List.findIdx?_append, hnone, List.findIdx?_cons, hr]

/-- 03 R55: the place, the working fit's progress and the queue position, in the rule's three cases. -/
theorem FitUnit.place_eq {place : Nat} {acc : Option Accumulator} {position : Option Nat}
    (h : (∃ r, f.working = some r ∧ r.channel = ch) ∧ place = 1 ∧ acc = some f.acc ∧ position = none
      ∨ (∀ r, f.working = some r → r.channel ≠ ch) ∧ place = 2 ∧ acc = none
        ∧ (∃ before r after, f.queue = before ++ r :: after ∧ r.channel = ch
          ∧ (∀ q ∈ before, q.channel ≠ ch) ∧ position = some (before.length + 1))
      ∨ (∀ r, f.working = some r → r.channel ≠ ch) ∧ (∀ q ∈ f.queue, q.channel ≠ ch)
        ∧ place = (if f.pendingReset.get ch = true then 3 else 0) ∧ acc = none ∧ position = none) :
    f.place ch = (place, acc, position) := by
  rcases h with ⟨⟨r, hr, hch⟩, rfl, rfl, rfl⟩
    | ⟨hw, rfl, rfl, before, r, after, hqueue, hch, hbefore, rfl⟩ | ⟨hw, hqueue, rfl, rfl, rfl⟩
  · exact FitUnit.place_of_working hr hch
  · rw [FitUnit.place_of_not_working hw, hqueue, findIdx?_channel hch hbefore]
    rfl
  · have hnone : f.queue.findIdx? (fun q => q.channel == ch) = none := by
      simpa [List.findIdx?_eq_none_iff] using hqueue
    rw [FitUnit.place_of_not_working hw, hnone]
    rfl

end

/-! #### The statuses of a channel's reading requests -/

section
variable (s : State) (ch : Nat)

theorem State.serveReadChannel_status :
    (s.serveReadChannel ch).status = if ch ≤ 3 then .ok else .range := by
  unfold State.serveReadChannel
  split
  next h => rw [if_neg (Nat.not_le_of_lt (channelOfCode_eq_none_iff.mp h))]; rfl
  next c h =>
    have hle : ch ≤ 3 := Nat.le_of_not_lt fun hlt => by simp [channelOfCode_eq_none_iff.mpr hlt] at h
    rw [if_pos hle]

theorem State.serveFitResult_status :
    (s.serveFitResult ch).status = (s.serveReadChannel ch).status := by
  unfold State.serveFitResult State.serveReadChannel
  split <;> rfl

theorem State.serveReadChannel_status_iff :
    ((s.serveReadChannel ch).status = .ok ↔ ch ≤ 3)
      ∧ ((s.serveReadChannel ch).status = .range ↔ 3 < ch) := by
  rw [State.serveReadChannel_status]
  split <;> simp <;> omega

theorem State.serveFitResult_status_iff :
    ((s.serveFitResult ch).status = .ok ↔ ch ≤ 3) ∧ ((s.serveFitResult ch).status = .range ↔ 3 < ch) := by
  rw [State.serveFitResult_status]
  exact s.serveReadChannel_status_iff ch

end

/-! #### The answers -/

/-- Settles O49: the fields' widths and saturation, an answer for every request, and the data of six of them
as `serve` forms it. -/
theorem readingRequestsChangeNothing : Obligations.ReadingRequestsChangeNothing := by
  refine ⟨fun w n i hw => ⟨sentU_length w n, beNat_sentU w n, sentS_length w i, toSigned_sentS hw i⟩,
    fun s h line x f ch q => ⟨?answered, fun count hcount => ?summary, s.newestIndex,
      fun n hn => State.newestIndex_of_some hn, fun set hset => ⟨fun c u hc hu => ?channel,
        fun c place acc position hc hplace => ?fitResult, fun t dT dR len ht hterm hlen => ?air,
        fun counters hcounters => ?pass, ?reref⟩⟩⟩
  case answered =>
    intro p hp
    simp only [List.mem_cons, List.not_mem_nil, or_false] at hp
    rcases hp with rfl | rfl | rfl | rfl | rfl | rfl | rfl | rfl | rfl
    · exact answered_of_reads q (r := .read line) rfl (s.reads_serveRead line) ⟨by simp, by simp⟩
    · exact answered_of_reads q (r := .find x) rfl (s.reads_serveFind x) ⟨fun _ => rfl, by simp⟩
    · exact answered_of_reads q (r := .stepTable f) rfl (s.reads_serveStep f) ⟨by simp, by simp⟩
    · exact answered_of_reads q (r := .tableSummary) rfl s.reads_serveSummary ⟨fun _ => rfl, by simp⟩
    · exact answered_of_reads q (r := .readChannel ch) rfl (s.reads_serveReadChannel ch)
        ⟨by simp, fun _ => s.serveReadChannel_status_iff ch⟩
    · exact answered_of_reads q (r := .fitResult ch) rfl (s.reads_serveFitResult ch)
        ⟨by simp, fun _ => s.serveFitResult_status_iff ch⟩
    · exact answered_of_reads q (r := .readAir) rfl s.reads_serveReadAir ⟨fun _ => rfl, by simp⟩
    · exact answered_of_reads q (r := .readPass) rfl s.reads_serveReadPass ⟨fun _ => rfl, by simp⟩
    · exact answered_of_reads q (r := .rerefResult) rfl s.reads_serveRerefResult ⟨fun _ => rfl, by simp⟩
  case summary =>
    refine exec_ok_of_reads q (r := .tableSummary) rfl s.reads_serveSummary rfl ?_
    show summaryData s.table = _
    simp only [hcount, summaryData, flatMap_range_eight, List.append_assoc]
    rfl
  case channel =>
    have hserve : s.serve (.readChannel ch)
        = { state := s, status := .ok, data := (s.chan c).data s.newestIndex } := by
      simp only [State.serve, State.serveReadChannel, hc]
    have henabled : sentFlag (!(u.counter.state == .off))
        = sentB (if u.counter.state = .off then 0 else 1) := by
      cases u.counter.state <;> rfl
    refine exec_ok_of_reads q (r := .readChannel ch) rfl (s.reads_serveReadChannel ch) (by rw [hserve]) ?_
    rw [hserve, ← henabled, hset, hu]
    unfold ChannelUnit.data
    rfl
  case fitResult =>
    obtain rfl : set = EllipseSet.data := funext hset
    have hserve : s.serve (.fitResult ch) = s.serveFitResult ch := rfl
    refine exec_ok_of_reads q (r := .fitResult ch) rfl (s.reads_serveFitResult ch) ?_ ?_
    · simp only [hserve, State.serveFitResult, hc]
    · simp only [hserve, State.serveFitResult, hc, FitUnit.place_eq hplace]
      rfl
  case air =>
    have hgetD : s.trackerTerm.getD (0, 0) = (dT, dR) := by
      rcases hterm with hterm | ⟨hterm, rfl, rfl⟩ <;> rw [hterm] <;> rfl
    refine exec_ok_of_reads q (r := .readAir) rfl s.reads_serveReadAir rfl ?_
    show s.serveReadAir.data = _
    simp only [State.serveReadAir, hgetD, hlen, ht]
    rfl
  case pass =>
    obtain rfl : counters = PassCounters.data := funext hcounters
    refine exec_ok_of_reads q (r := .readPass) rfl s.reads_serveReadPass rfl ?_
    show s.serveReadPass.data = _
    simp only [State.serveReadPass, sentFlag, boolCode_isSome, Position.data, List.append_assoc]
    rfl
  case reref =>
    refine exec_ok_of_reads q (r := .rerefResult) rfl s.reads_serveRerefResult rfl ?_
    show s.serveRerefResult.data = _
    simp only [State.serveRerefResult, State.waiting, sentFlag, boolCode_isSome]
    rfl

end Sys2Proof.Machine
end

/-! ### Invariants of the whole part: kept by the blocks' operations, kept by every command (log entries 1 to 4) -/

section
namespace Sys2Proof.Machine

/-! #### The events that are due -/

/-- A property kept by the operations of the part's own events. `frame`: it reads neither the line input, the
link, the drive port, the status unit and the pins nor what the model keeps for itself. -/
structure State.EventInvariant (P : State → Prop) : Prop where
  frame : ∀ {s : State} {l : LineInput} {k : LinkUnit} {d : DriveUnit} {u : StatusUnit} {straps : Nat}
    {active : Bool} {v : Arrival} {n : Nat} {q : List Instr}, P s →
    P { s with
      line := l, link := k, drive := d, status := u, straps := straps, restartLine := active
      arrival := v, freeCount := n, pending := q }
  ageStep : ∀ {s : State}, P s → P s.ageStep
  fitStart : ∀ {s : State}, P s → P s.fitStart
  fitFinish : ∀ {s : State}, P s → P s.fitFinish
  fitTimeout : ∀ {s : State}, P s → P s.fitTimeout
  fillSlot : ∀ {s : State}, P s → P s.takeSlotFill
  installPending : ∀ {s : State} (ch : Channel), P s → P (s.installPending ch)
  runCheck : ∀ {s : State}, P s → P s.runCheck
  completeCapture : ∀ {s : State}, P s → P s.completeCapture
  closeAborted : ∀ {s : State} (r : PassReason), P s → P (s.closeAborted r)
  finishWait : ∀ {s : State} (o : RerefOutcome) (c : Option RerefCapture) (a : Option RerefApplied),
    P s → P (s.finishWait o c a)

namespace State.EventInvariant

variable {P : State → Prop} (I : State.EventInvariant P) {s : State}

include I

theorem takeAgeTick (h : P s) : P s.takeAgeTick := by
  unfold State.takeAgeTick
  split
  · exact I.ageStep (I.frame (s := s) h)
  · exact h

theorem takeFitBegin (h : P s) : P s.takeFitBegin := by
  unfold State.takeFitBegin
  split
  · exact I.fitStart (I.frame (s := s) h)
  · exact h

theorem takeFitComplete (h : P s) : P s.takeFitComplete := by
  unfold State.takeFitComplete
  split
  · exact I.fitFinish (I.frame (s := s) h)
  · exact h

theorem takeResetInstall (ch : Channel) (h : P s) : P (s.takeResetInstall ch) := by
  unfold State.takeResetInstall
  split
  · exact I.installPending ch (I.frame (s := s) h)
  · exact h

theorem takeResetInstalls (h : P s) : P s.takeResetInstalls :=
  I.takeResetInstall .t (I.takeResetInstall .y (I.takeResetInstall .xr (I.takeResetInstall .xl h)))

theorem takeFitTimer (lead : Nat) (h : P s) : P (s.takeFitTimer lead) := by
  unfold State.takeFitTimer
  split
  · exact I.fitTimeout h
  · exact h

theorem takeCheck (h : P s) : P s.takeCheck := by
  unfold State.takeCheck
  split
  · exact I.runCheck (I.frame (I.takeAgeTick h))
  · exact h

theorem takeReport (h : P s) : P s.takeReport := by
  unfold State.takeReport
  split
  · exact I.frame (s := s.takeAgeTick) (I.takeAgeTick h)
  · exact h

theorem takeCapture (h : P s) : P s.takeCapture := by
  unfold State.takeCapture
  split
  · refine I.completeCapture ?_
    split
    · exact I.takeReport (I.takeCheck (I.takeResetInstalls (I.takeFitBegin (I.takeAgeTick h))))
    · exact I.takeAgeTick h
  · exact h

theorem takeRerefExpiry (h : P s) : P s.takeRerefExpiry := by
  unfold State.takeRerefExpiry
  split
  · exact I.finishWait _ _ _ (I.frame (s := s) h)
  · exact h

theorem takeBaud (h : P s) : P s.takeBaud := by
  unfold State.takeBaud
  split
  · exact h
  · exact I.frame (s := s) h

theorem settleArrival (h : P s) : P s.settleArrival := by
  have hfit := I.fillSlot (I.takeResetInstalls (I.takeFitComplete (I.takeFitBegin (I.takeAgeTick h))))
  have htimer := I.fillSlot (I.takeFitTimer 0 hfit)
  exact I.takeRerefExpiry (I.takeCapture (I.takeReport (I.takeCheck htimer)))

/-- The endings of an arrival: a capture that comes first, a pass abort, the end of a wait. -/
theorem endings (before : State) (first : Bool) (h : P s) : P (s.endings before first) := by
  have hcapture (b : Bool) : P (if b then s.takeCapture else s) := by
    cases b
    exacts [h, I.takeCapture h]
  have habort (b b' : Bool) : P (if b then (if b' then s.takeCapture else s).closeAborted .referenceLost
      else if b' then s.takeCapture else s) := by
    cases b
    exacts [hcapture b', I.closeAborted _ (hcapture b')]
  unfold State.endings
  dsimp only
  split
  · exact I.finishWait _ _ _ (habort _ _)
  · exact habort _ _

end State.EventInvariant

/-! #### The commands -/

/-- A property that every command keeps once the whole operations of the outside events keep it. -/
structure State.StepInvariant (P : State → Prop) : Prop extends State.EventInvariant P where
  arrive : ∀ {s : State} (a : SampleInput), P s → P (s.arrive a)
  pulse : ∀ {s : State} (edge : Edge) (e : Nat), P s → P (s.pulse edge e)
  serve : ∀ {s : State} (r : Request), P s → P (s.serve r).state
  restartAll : ∀ {s : State} (straps : Nat), P s → P (s.restartAll straps)
  powerOn : ∀ (s : State) (straps : Nat), P (s.powerOn straps)

namespace State.StepInvariant

variable {P : State → Prop} (I : State.StepInvariant P) {s : State}

include I

theorem takeRestart (straps : Nat) (h : P s) : P (s.takeRestart straps) := by
  unfold State.takeRestart
  split
  · exact I.restartAll straps h
  · exact h

theorem finish {v : Served} (own : Bool) (code tag : Byte) (h : P v.state) : P (v.finish own code tag) := by
  unfold Served.finish State.afterService
  repeat' split
  all_goals exact I.frame (s := v.state) h

theorem serveRequest (own : Bool) (tag : Byte) (r : Request) (h : P s) : P (s.serveRequest own tag r) :=
  I.finish own r.code tag (I.serve r h)

theorem serveFrame (f : Frame) (h : P s) : P (s.serveFrame f) := by
  unfold State.serveFrame
  split
  · exact I.serveRequest _ _ _ h
  all_goals exact I.finish (v := s.refuse _) _ _ _ h

theorem offer (f : Frame) (h : P s) : P (s.offer f) := by
  unfold State.offer
  split
  · exact I.serveFrame f h
  · split
    · exact I.frame (s := s) h
    · exact I.frame (s := s) h

theorem takeFrame (address : Byte) (payload : Bytes) (h : P s) : P (s.takeFrame address payload) := by
  unfold State.takeFrame
  split
  · exact h
  · exact I.offer _ h

theorem takeRequest (hd : Header) (r : Request) (h : P s) : P (s.takeRequest hd r) := by
  unfold State.takeRequest
  split
  · exact h
  · split
    · exact I.serveRequest _ _ _ h
    · exact I.offer _ h

theorem takeBuffered (h : P s) : P s.takeBuffered := by
  unfold State.takeBuffered
  split
  · exact I.serveFrame _ (I.frame (s := s) h)
  · exact h

theorem settle (h : P s) : P s.settle := by
  have hbaud := I.takeBaud (I.settleArrival h)
  have hbuffered := I.takeBuffered (I.takeRestart s.settleArrival.takeBaud.straps hbaud)
  exact I.fillSlot (I.takeRestart _ hbuffered)

/-- A character changes the receiver, counts a fault, or completes a frame. -/
theorem character (v : Byte) (h : P s) : P (s.character v) := by
  unfold State.character
  dsimp only
  split
  case h_6 =>
    unfold State.frameComplete
    dsimp only
    split
    · exact I.takeFrame _ _ (I.frame (s := s) h)
    · exact I.frame (s := s) h
  case h_1 =>
    split
    exacts [I.frame (s := s) h, h]
  case h_3 => split <;> exact I.frame (s := s) h
  all_goals exact I.frame (s := s) h

theorem characterError (h : P s) : P s.characterError := by
  unfold State.characterError
  split
  exacts [h, I.frame (s := s) h]

theorem gap (h : P s) : P s.gap := by
  unfold State.gap
  split
  exacts [h, I.frame (s := s) h]

theorem replyEnd (h : P s) : P s.replyEnd := by
  unfold State.replyEnd
  split
  · exact h
  · split <;> exact I.frame (s := s) h

theorem exec {t : State} {c : Instr} (h : P s) (e : Machine.exec c s = .next t) : P t := by
  cases hreq : c.request with
  | some p =>
    rw [exec_of_request hreq] at e
    cases e
    exact I.takeRequest _ _ (I.settle h)
  | none =>
    cases c
    case powerOnReset straps => cases e; exact I.powerOn s straps
    case restartLine active straps =>
      cases e
      split
      · exact I.frame (I.restartAll straps (I.settle h))
      · exact I.frame (I.settle h)
    case sampleArrival a => cases e; exact I.arrive a (I.settle h)
    case ageTick => cases e; exact I.takeAgeTick h
    case check => cases e; exact I.takeCheck h
    case pulseArrival edge time => cases e; exact I.pulse edge time (I.settle h)
    case captureFormed => cases e; exact I.takeCapture h
    case fitBegin => cases e; exact I.takeFitBegin h
    case slotFill => cases e; exact I.fillSlot h
    case fitComplete => cases e; exact I.takeFitComplete h
    case fitTimerExpiry => cases e; exact I.takeFitTimer 1 h
    case resetInstall ch => cases e; exact I.takeResetInstall ch h
    case rerefTimerExpiry => cases e; exact I.takeRerefExpiry h
    case reportExpiry => cases e; exact I.takeReport h
    case driveFrameEnd => cases e; exact I.frame (I.settle h)
    case receiveCharacter value stopBit =>
      cases e
      split
      exacts [I.character value (I.settle h), I.characterError (I.settle h)]
    case gapExpiry => cases e; exact I.gap (I.settle h)
    case bufferedFrameService =>
      simp only [Machine.exec, execBufferedFrameService] at e
      split at e <;> cases e
      exacts [I.takeBuffered (I.takeRestart _ (I.takeBaud (I.settleArrival h))), h]
    case replySent => cases e; exact I.replyEnd (I.settle h)
    case baudChange => cases e; exact I.takeBaud h
    case restartTaken straps =>
      simp only [Machine.exec, execRestartTaken] at e
      split at e <;> cases e
      exacts [I.takeRestart straps (I.takeBaud (I.settleArrival h)), h]
    case unknownRequest address payload =>
      simp only [Machine.exec, execUnknownRequest] at e
      split at e <;> cases e
      exacts [I.takeFrame address payload (I.settle h), h]
    all_goals cases hreq

/-- Every step keeps the property. -/
theorem step {t : State} (h : P s) (e : Machine.step s = .next t) : P t := by
  unfold Machine.step at e
  split at e
  · cases e
    exact h
  · exact I.exec (I.frame (s := s) h) e

end State.StepInvariant

end Sys2Proof.Machine
end

/-! ### The fit unit and the due marks at an arrival (03 R41 to R44, R51, 04 R66, 07 R116, 08 R142, 10 R169) -/

section
namespace Sys2Proof.Machine

/-! #### The channels and the fit unit -/

/-- 01 R3, 03 R41, R43: the part once the channels and the fit unit have taken a sample. -/
def State.arrivedFit (s : State) (a : SampleInput) : State :=
  (s.takeSample s.arrivingIndex (s.channelArrivals a)).fitArrive a.trimOrder (s.channelArrivals a)

theorem State.arrivedFit_shape (s : State) (a : SampleInput) :
    ∃ f u v, s.arrivedFit a =
      { s with
        newest := some s.arrivingIndex, channels := s.arrivedChannels a, fit := f, status := u
        arrival := v } := by
  obtain ⟨_, _, h1, -⟩ := s.takeSample_eq s.arrivingIndex (s.channelArrivals a)
  obtain ⟨f, u, v, h2, -⟩ :=
    (s.takeSample s.arrivingIndex (s.channelArrivals a)).fitArrive_eq a.trimOrder (s.channelArrivals a)
  rw [h1] at h2
  exact ⟨f, u, v, by rw [State.arrivedFit, h1]; exact h2⟩

/-- What follows the fit unit up to the endings leaves it alone. -/
theorem State.beforeEndings_fit (s : State) (a : SampleInput) :
    (s.beforeEndings a).fit = (s.arrivedFit a).fit := by
  obtain ⟨_, _, _, he, -⟩ := (s.arrivedFit a).afterFit_eq s.arrivingIndex s.measuringEpochs
  exact (congrArg (fun t : State => t.fit) he :)

/-- A new sample: nothing of the one before it is still due. -/
theorem State.takeSample_arrival (s : State) (k : Nat) (r : PerChannel ChannelArrival) :
    (s.takeSample k r).arrival =
      { Arrival.idle with
        samples := r.map ChannelArrival.sample, tracker := r.t.unit.counter.trackerValues } := by
  obtain ⟨_, hu, -⟩ := State.raiseLost_eq
    (((s.withNewest (some k)).withChannels (r.map ChannelArrival.unit)).withArrival
      { Arrival.idle with
        samples := r.map ChannelArrival.sample, tracker := r.t.unit.counter.trackerValues }) r allChannels
  exact (congrArg (fun t : State => t.arrival) hu :)

/-- Of the due marks an observed sample sets FIT_COMPLETE at most. -/
theorem State.fitObserve_arrival (s : State) :
    ∃ b, s.fitObserve.arrival = { s.arrival with fitComplete := b } := by
  unfold State.fitObserve
  dsimp only
  repeat' split
  all_goals exact ⟨_, rfl⟩

/-- 03 R43, R51: what the fit unit makes due at an arrival. -/
theorem State.arrivedFit_arrival (s : State) (a : SampleInput) :
    ∃ b, (s.arrivedFit a).arrival =
      { Arrival.idle with
        samples := (s.channelArrivals a).map ChannelArrival.sample
        tracker := (s.channelArrivals a).t.unit.counter.trackerValues
        fitBegin := s.fit.working.isSome && !s.fit.timer.isSome
        fitComplete := b, resetInstall := s.fit.pendingReset } := by
  have hsample := s.takeSample_arrival s.arrivingIndex (s.channelArrivals a)
  obtain ⟨_, _, htake, -⟩ := s.takeSample_eq s.arrivingIndex (s.channelArrivals a)
  have hfit : (s.takeSample s.arrivingIndex (s.channelArrivals a)).fit = s.fit := by rw [htake]
  dsimp only [State.arrivedFit, State.fitArrive]
  rw [State.trimRequests_eq, hfit, hsample]
  split
  · obtain ⟨b, hb⟩ := State.fitObserve_arrival _
    exact ⟨b, hb⟩
  · exact ⟨false, rfl⟩

/-! #### The other blocks' marks -/

/-- 04 R66: a completed millisecond makes AGE_TICK due. -/
theorem State.countAge_arrival (s : State) :
    s.countAge.arrival =
      { s.arrival with
        ageTick := s.arrival.ageTick
          || decide (s.air.ageMs < s.air.ageTop ∧ Config.samplesPerMs ≤ s.air.ageSamples + 1) } := by
  unfold State.countAge
  by_cases hage : s.air.ageTop ≤ s.air.ageMs
  · simp [hage, Nat.not_lt_of_le hage]
  · by_cases hfull : Config.samplesPerMs ≤ s.air.ageSamples + 1
    · simp [hage, Nat.lt_of_not_le hage, hfull]
    · simp [hage, hfull]

/-- 08 R145: moving the valid-from sample leaves the wait's deadline. -/
theorem State.epochsArrived_deadline (s : State) (old : BitVec 32 × BitVec 32) (k : Nat) :
    (s.epochsArrived old k).reref.wait.map Wait.deadline = s.reref.wait.map Wait.deadline := by
  unfold State.epochsArrived State.moveValidFrom
  split
  · rfl
  · split
    next => rfl
    next w hw =>
      rw [hw]
      rfl

/-- 07 R116, 08 R142: CHECK at every sixteenth sample, REREF_TIMER_EXPIRY at the deadline. -/
theorem State.makeDue_arrival (s : State) (k : Nat) :
    (s.makeDue k).arrival =
      { s.arrival with
        check := k % 16 == 0, rerefExpiry := decide (s.reref.wait.map Wait.deadline = some k) } := by
  cases hw : s.reref.wait <;> simp [State.makeDue, hw, beq_eq_decide]

/-- 10 R169: REPORT_EXPIRY while the port is ON. -/
theorem State.countReport_arrival (s : State) :
    s.countReport.arrival =
      { s.arrival with
        report := if s.drive.enable then decide (s.drive.period ≤ s.drive.timer + 1)
          else s.arrival.report } := by
  unfold State.countReport
  split <;> rfl

/-- What the other blocks make due at an arrival. -/
theorem State.beforeEndings_arrival (s : State) (a : SampleInput) :
    (s.beforeEndings a).arrival =
      { (s.arrivedFit a).arrival with
        ageTick := (s.arrivedFit a).arrival.ageTick
          || decide (s.air.ageMs < s.air.ageTop ∧ Config.samplesPerMs ≤ s.air.ageSamples + 1)
        check := s.arrivingIndex % 16 == 0
        rerefExpiry := decide (s.reref.wait.map Wait.deadline = some s.arrivingIndex)
        report := if s.drive.enable then decide (s.drive.period ≤ s.drive.timer + 1)
          else (s.arrivedFit a).arrival.report } := by
  obtain ⟨f, u, v, hw⟩ := s.arrivedFit_shape a
  obtain ⟨w, hwin⟩ : ∃ w, w = ((s.arrivedFit a).pushWindow s.arrivingIndex).dropSnapshot.updateDrift := ⟨_, rfl⟩
  have hbefore : s.beforeEndings a = ((w.countAge.epochsArrived s.measuringEpochs
      s.arrivingIndex).makeDue s.arrivingIndex).countReport := hwin ▸ rfl
  obtain ⟨u', hdrift, -⟩ := ((s.arrivedFit a).pushWindow s.arrivingIndex).dropSnapshot.updateDrift_eq
  rw [← hwin, State.dropSnapshot_eq, hw] at hdrift
  obtain ⟨_, hepochs, -⟩ := w.countAge.epochsArrived_eq s.measuringEpochs s.arrivingIndex
  have hage := w.countAge_arrival
  obtain ⟨v', hcount, -⟩ := w.countAge_eq
  rw [hbefore, State.countReport_arrival, State.makeDue_arrival, State.epochsArrived_deadline, hepochs]
  rw [hcount] at hage ⊢
  rw [show v' = _ from hage, hdrift, hw]
  rfl

/-! #### The arrival -/

/-- With no capture that comes first, the endings of an arrival make nothing due. -/
theorem State.endings_arrival (s before : State) : (s.endings before false).arrival = s.arrival := by
  have habort (b : Bool) :
      (if b then s.closeAborted .referenceLost else s).arrival = s.arrival := by
    cases b
    · rfl
    · obtain ⟨_, _, _, e⟩ := s.closeAborted_shape .referenceLost
      exact (congrArg (fun t : State => t.arrival) e :)
  dsimp only [State.endings]
  rw [Bool.false_and, if_neg Bool.false_ne_true]
  split
  · obtain ⟨_, _, e⟩ := State.finishWait_shape
      (if (s.passOpen && referenceLost before s) then s.closeAborted .referenceLost else s)
      .failedSignal none none
    rw [e]
    exact habort _
  · exact habort _

/-- Settles O10: each mark is set by its own block at the arrival, and the endings leave it. -/
theorem arrivalMakesEventsDue : Obligations.ArrivalMakesEventsDue := by
  intro a s hquiet hfirst
  obtain ⟨b, hfit⟩ := s.arrivedFit_arrival a
  have hmarks := s.beforeEndings_arrival a
  rw [← (s.beforeEndings a).endings_arrival s, ← hfirst, ← State.arrive_eq, hfit] at hmarks
  refine ⟨s.arrive a, ?_, ?_⟩
  · rw [exec, execSampleArrival, s.settle_of_quiet hquiet]
  rw [hmarks]
  refine ⟨by simp, ?_, ?_, ?_, fun ch => rfl, ?_⟩
  · cases s.drive.enable <;> simp [Arrival.idle]
  · rw [decide_eq_true_iff, Option.map_eq_some_iff]
    simp only [Wait.deadline, Config.samplesPerSecond, eq_comm]
  · simp [Option.isSome_iff_ne_none]
  · simp only [Arrival.idle, Bool.false_or, decide_eq_true_iff]
    rfl

end Sys2Proof.Machine
end

/-! ### Every step keeps the fit unit, the age and the window sound (03 R39, R42, 04 R66, 05 R79) -/

section
namespace Sys2Proof.Machine

/-! #### The fit unit's requests (03 R39, R42) -/

/-- Channels without a repetition are four at most. -/
theorem length_le_four {l : List Channel} (h : l.Nodup) : l.length ≤ 4 :=
  (List.subperm_of_subset h fun ch _ => mem_allChannels ch).length_le

/-- 03 R39, R42: what `State.FitUnitSound` says, of the fit unit alone. -/
structure FitUnit.Sound (f : FitUnit) : Prop where
  claims : f.claims.Nodup
  waiting : f.queue.length ≤ 3
  idle : f.working = none → f.timer = none ∧ f.acc = .empty

theorem State.fitUnitSound_iff {s : State} : s.FitUnitSound ↔ s.fit.Sound :=
  ⟨fun ⟨hclaims, hwaiting, hidle⟩ => ⟨hclaims, hwaiting, hidle⟩,
    fun ⟨hclaims, hwaiting, hidle⟩ => ⟨hclaims, hwaiting, hidle⟩⟩

namespace FitUnit

variable {f g : FitUnit}

/-- The requests in the slot and in the queue, oldest first. -/
def requests (f : FitUnit) : List FitRequest := f.working.toList ++ f.queue

theorem mem_requests {r : FitRequest} : r ∈ f.requests ↔ f.working = some r ∨ r ∈ f.queue := by
  simp [requests]

/-- 03 R39: no two requests in the slot and the queue are of one channel, and none of a channel with a
pending reset. -/
theorem nodup_claims_iff :
    f.claims.Nodup ↔ (f.requests.map FitRequest.channel).Nodup
      ∧ ∀ r ∈ f.requests, f.pendingReset.get r.channel = false := by
  have hpending : (allChannels.filter f.pendingReset.get).Nodup := List.Nodup.filter _ (by decide)
  rw [claims, ← requests, List.nodup_append']
  simp [hpending, List.disjoint_left, mem_allChannels]

/-- 03 R39: a new request is one claim more. -/
theorem claims_submit (f : FitUnit) (r : FitRequest) :
    (f.submit r).claims.Perm (r.channel :: f.claims) := by
  unfold submit
  split
  next hw => simp [claims, hw]
  next q hw =>
    simp only [claims, List.map_append, List.append_assoc]
    refine (List.Perm.append_left _ ?_).trans List.perm_middle
    simp

theorem submit_working_ne_none (f : FitUnit) (r : FitRequest) : (f.submit r).working ≠ none := by
  unfold submit
  split
  next => nofun
  next q hw => simp [hw]

namespace Sound

/-- 03 R39: beside a request in the slot at most three can wait. -/
theorem of_working (hclaims : f.claims.Nodup) (hw : f.working ≠ none) : f.Sound := by
  refine ⟨hclaims, ?_, fun hnone => absurd hnone hw⟩
  obtain ⟨q, hq⟩ := Option.ne_none_iff_exists'.mp hw
  have hfour := length_le_four hclaims
  simp [FitUnit.claims, hq] at hfour
  omega

/-- Requests and pending resets may leave. -/
theorem of_sublist (h : f.Sound) (hr : g.requests.Sublist f.requests)
    (hp : ∀ ch, f.pendingReset.get ch = false → g.pendingReset.get ch = false)
    (hq : g.queue.length ≤ f.queue.length) (hidle : g.working = none → g.timer = none ∧ g.acc = .empty) :
    g.Sound := by
  obtain ⟨hnodup, hfree⟩ := nodup_claims_iff.mp h.claims
  exact ⟨nodup_claims_iff.mpr ⟨hnodup.sublist (hr.map _), fun r hmem => hp _ (hfree r (hr.subset hmem))⟩,
    hq.trans h.waiting, hidle⟩

/-- 03 R42: the slot empties. -/
theorem emptySlot (h : f.Sound) : f.emptySlot.Sound :=
  h.of_sublist (List.sublist_append_right _ _) (fun _ => id) le_rfl fun _ => ⟨rfl, rfl⟩

/-- 03 R42: the oldest waiting request enters the slot. -/
theorem fillSlot (h : f.Sound) : f.fillSlot.Sound := by
  unfold FitUnit.fillSlot
  split
  next hw hq =>
    refine h.of_sublist ?_ (fun _ => id) ?_ nofun
    · simp [requests, hw, hq]
    · simp [hq]
  all_goals exact h

/-- 03 R39: a request of a channel that has none enters. -/
theorem submit (h : f.Sound) {r : FitRequest} (hr : f.holds r.channel = false) : (f.submit r).Sound := by
  have hnew : r.channel ∉ f.claims := by
    rw [← holds_iff_mem_claims, hr]
    decide
  exact of_working ((f.claims_submit r).nodup_iff.mpr (List.nodup_cons.mpr ⟨hnew, h.claims⟩))
    (f.submit_working_ne_none r)

/-- 03 R51: a reset becomes pending on a channel without a request. -/
theorem pend (h : f.Sound) {ch : Channel} (hch : ∀ r ∈ f.requests, r.channel ≠ ch) :
    FitUnit.Sound { f with pendingReset := f.pendingReset.set ch true } := by
  obtain ⟨hnodup, hfree⟩ := nodup_claims_iff.mp h.claims
  refine ⟨nodup_claims_iff.mpr ⟨hnodup, fun r hr => ?_⟩, h.waiting, h.idle⟩
  rw [PerChannel.get_set, if_neg (hch r hr)]
  exact hfree r hr

/-- A pending reset is cleared. -/
theorem clear (h : f.Sound) (ch : Channel) :
    FitUnit.Sound { f with pendingReset := f.pendingReset.set ch false } := by
  refine h.of_sublist (List.Sublist.refl _) (fun c hc => ?_) le_rfl h.idle
  rw [PerChannel.get_set, hc, ite_self]

/-- The requests of a channel leave the queue. -/
theorem filter (h : f.Sound) (p : FitRequest → Bool) : FitUnit.Sound { f with queue := f.queue.filter p } :=
  h.of_sublist (List.Sublist.append_left List.filter_sublist _) (fun _ => id) (List.length_filter_le _ _)
    h.idle

end Sound

end FitUnit

/-! #### The fit unit's operations -/

namespace FitUnit.Sound

variable {s : State}

theorem fitOutcome (h : s.fit.Sound) (ch : Channel) (r : FitResult) : (s.fitOutcome ch r).fit.Sound :=
  ⟨h.claims, h.waiting, h.idle⟩

theorem closeFit (h : s.fit.Sound) (ch : Channel) (r : FitResult) : (s.closeFit ch r).fit.Sound :=
  (h.fitOutcome ch r).emptySlot

theorem endWorking (h : s.fit.Sound) (r : FitRequest) (o : FitOutcome) : (s.endWorking r o).fit.Sound :=
  h.closeFit _ _

theorem endRequests (h : s.fit.Sound) (ch : Channel) (o : FitOutcome) : (s.endRequests ch o).fit.Sound := by
  have hworking : (s.endWorkingOf ch o).fit.Sound := by
    unfold State.endWorkingOf
    split
    · exact h
    · split
      exacts [h.endWorking _ o, h]
  unfold State.endRequests State.endWaiting
  split
  · exact hworking
  · exact (hworking.fitOutcome ch _).filter _

/-- 03 R43, R44: with a request in the slot the accumulator and the timer are free. -/
theorem fitObserve (h : s.fit.Sound) : s.fitObserve.fit.Sound := by
  unfold State.fitObserve
  split
  · exact h
  next r hr =>
    have hw : s.fit.working ≠ none := by simp [hr]
    split
    · exact h
    · split
      iterate 2 exact h.endWorking _ _
      all_goals
        dsimp only
        split <;> exact of_working h.claims hw

theorem fitStart (h : s.fit.Sound) : s.fitStart.fit.Sound := by
  unfold State.fitStart
  split
  · exact h
  next hr =>
    refine fitObserve ?_
    exact of_working h.claims (by simp [hr])

theorem fitFinish (h : s.fit.Sound) : s.fitFinish.fit.Sound := by
  unfold State.fitFinish
  dsimp only
  repeat' split
  iterate 2 exact h
  all_goals exact h.closeFit _ _

theorem fitTimeout (h : s.fit.Sound) : s.fitTimeout.fit.Sound := by
  unfold State.fitTimeout
  split
  exacts [h, h.endWorking _ _]

theorem installNominal (h : s.fit.Sound) (ch : Channel) : (s.installNominal ch).fit.Sound :=
  ⟨h.claims, h.waiting, h.idle⟩

theorem installPending (h : s.fit.Sound) (ch : Channel) : (s.installPending ch).fit.Sound := by
  have hclear : (s.clearPendingReset ch).fit.Sound := h.clear ch
  unfold State.installPending
  dsimp only
  split
  iterate 2 exact ⟨hclear.claims, hclear.waiting, hclear.idle⟩
  exact hclear.installNominal ch

end FitUnit.Sound

/-- The channel has no request in the slot or in the queue once its requests have been ended. -/
theorem State.ne_of_mem_requests_endRequests {s : State} {ch : Channel} {o : FitOutcome} {r : FitRequest}
    (h : r ∈ (s.endRequests ch o).fit.requests) : r.channel ≠ ch := by
  rcases FitUnit.mem_requests.mp h with hw | hq
  · intro hch
    have hkeep : s.fit.working = some r := by
      rw [State.endRequests, ((s.endWorkingOf ch o).requestsEnded_endWaiting ch o).2.2.1] at hw
      unfold State.endWorkingOf at hw
      split at hw
      · exact hw
      · split at hw
        · cases hw
        · exact hw
    rw [(State.endRequests_working o hkeep hch).1] at hw
    cases hw
  · rw [State.endRequests_queue] at hq
    simpa using (List.mem_filter.mp hq).2

namespace FitUnit.Sound

variable {s : State}

/-- 03 R50, R51: a RESET ends the channel's request before it becomes pending. -/
theorem takeReset (h : s.fit.Sound) (ch : Channel) : (s.takeReset ch).fit.Sound := by
  have hend := h.endRequests ch .abandonedReset
  unfold State.takeReset
  rw [← State.endRequests]
  dsimp only
  split
  iterate 2 exact hend.pend fun r hr => State.ne_of_mem_requests_endRequests hr
  all_goals exact hend.installNominal ch

theorem fitDisable (h : s.fit.Sound) (ch : Channel) : (s.fitDisable ch).fit.Sound := by
  have hend := h.endRequests ch .abandonedDisabled
  unfold State.fitDisable
  rw [← State.endRequests]
  dsimp only
  split
  · exact (hend.clear ch).installNominal (s := State.clearPendingReset _ ch) ch
  · exact hend

/-- 03 R41: a trim request is dropped where its channel has a request. -/
theorem trimRequests (h : s.fit.Sound) (l : List Channel) : (l.foldl State.trimRequest s).fit.Sound := by
  induction l generalizing s with
  | nil => exact h
  | cons ch l ih =>
    refine ih ?_
    unfold State.trimRequest
    split
    · exact h
    next hch => exact h.submit (Bool.eq_false_iff.mpr hch)

/-- 03 R41, R43: the fit unit at an arrival. -/
theorem fitArrive (h : s.fit.Sound) (order : List Channel) (r : PerChannel ChannelArrival) :
    (s.fitArrive order r).fit.Sound := by
  have htrims : ((s.withArrival { s.arrival with
      fitBegin := s.fit.working.isSome && !s.fit.timer.isSome
      resetInstall := s.fit.pendingReset }).trimRequests order r).fit.Sound := by
    refine trimRequests ?_ _
    exact h
  unfold State.fitArrive
  dsimp only
  split
  exacts [htrims.fitObserve, htrims]

/-- 03 R39, R40, R50: a request is tested for its channel's other requests before it enters. -/
theorem serveFit (h : s.fit.Sound) (channel kind : Nat) : (s.serveFit channel kind).state.fit.Sound := by
  have hestimate (ch : Channel) (k : EstimateKind) : (s.serveEstimate ch k).state.fit.Sound := by
    unfold State.serveEstimate
    split
    · exact h
    · split
      · exact h
      next hch => exact h.submit (Bool.eq_false_iff.mpr hch)
  have hreset (ch : Channel) : (s.serveReset ch).state.fit.Sound := by
    unfold State.serveReset
    split
    exacts [h, h.takeReset ch]
  unfold State.serveFit
  split
  · exact h
  · split
    exacts [hestimate _ _, hestimate _ _, hreset _, h]

/-- 03 R57: after a restart no request is left. -/
theorem fitRestart (s : State) : s.fitRestart.fit.Sound := by
  refine ⟨FitUnit.nodup_claims_iff.mpr ?_, Nat.zero_le _, fun _ => ⟨rfl, rfl⟩⟩
  rw [State.fitRestart_fit]
  exact ⟨List.nodup_nil, nofun⟩

end FitUnit.Sound

/-- 03 R40, R50: a FIT request touches a channel's parameters, the fit unit and FIT_DONE alone. -/
theorem State.serveFit_shape (s : State) (channel kind : Nat) :
    ∃ c f u, (s.serveFit channel kind).state = { s with channels := c, fit := f, status := u } := by
  have hestimate (ch : Channel) (k : EstimateKind) :
      ∃ c f u, (s.serveEstimate ch k).state = { s with channels := c, fit := f, status := u } := by
    unfold State.serveEstimate
    repeat' split
    all_goals exact ⟨_, _, _, rfl⟩
  unfold State.serveFit
  split
  · exact ⟨_, _, _, rfl⟩
  · split
    · exact hestimate _ _
    · exact hestimate _ _
    · unfold State.serveReset
      split
      exacts [⟨_, _, _, rfl⟩, s.takeReset_shape _]
    · exact ⟨_, _, _, rfl⟩

/-! #### The age (04 R66) -/

theorem State.ageSound_ageStep {s : State} (h : s.AgeSound) : s.ageStep.AgeSound := by
  obtain ⟨hle, hstale, hsamples⟩ := h
  unfold State.ageStep
  dsimp only
  split
  next => exact ⟨hle, hstale, hsamples⟩
  next hbelow =>
    simp only [AirUnit.ageTop, Nat.not_le] at hbelow
    split
    next htop =>
      simp only [AirUnit.ageTop] at htop
      exact ⟨htop.le, iff_of_true rfl htop, hsamples⟩
    next htop =>
      simp only [AirUnit.ageTop] at htop
      exact ⟨hbelow, iff_of_false (fun hs => hbelow.ne (hstale.mp hs)) htop, hsamples⟩

/-- 04 R66: an arrival counts at most up to the next millisecond. -/
theorem AirUnit.nextSamples_lt {a : AirUnit} (h : a.ageSamples < 10000) : a.nextSamples < 10000 := by
  unfold AirUnit.nextSamples Config.samplesPerMs
  repeat' split
  all_goals omega

/-! #### The look-back window (05 R79) -/

theorem consecutive_take (n : Nat) {l : List WindowEntry} (h : consecutive l) : consecutive (l.take n) := by
  induction l generalizing n with
  | nil => simp [consecutive]
  | cons a l ih =>
    match n, l with
    | 0, _ => trivial
    | 1, _ => simp [consecutive]
    | n + 2, [] => trivial
    | n + 2, b :: l => exact ⟨h.1, ih (n + 1) h.2⟩

/-- 01 R2, 05 R79: the entry of an arriving sample joins the window. -/
theorem State.windowSound_arrive {s t : State} {e : WindowEntry} (h : s.WindowSound)
    (he : e.index = s.arrivingIndex) (hn : t.newest = some s.arrivingIndex)
    (hx : t.axis.window = (e :: s.axis.window).take 64) : t.WindowSound := by
  obtain ⟨-, hcons, hhead⟩ := h
  have hjoined : consecutive (e :: s.axis.window) := by
    cases hwin : s.axis.window with
    | nil => trivial
    | cons b l =>
      have hnewest := hhead b (by simp [hwin])
      exact ⟨he.trans (by simp [State.arrivingIndex, hnewest]), hwin ▸ hcons⟩
  rw [State.WindowSound, hx, hn]
  refine ⟨by simp, consecutive_take 64 hjoined, fun e' he' => ?_⟩
  cases he'
  rw [he]

/-! #### Events, arrivals, requests and restarts -/

/-- 03 R39, R42, 04 R66, 05 R79: the three properties together. -/
structure State.UnitsSound (s : State) : Prop where
  fit : s.fit.Sound
  age : s.AgeSound
  window : s.WindowSound

theorem State.unitsSound_iff {s : State} :
    s.UnitsSound ↔ s.FitUnitSound ∧ s.AgeSound ∧ s.WindowSound :=
  ⟨fun ⟨hf, ha, hw⟩ => ⟨State.fitUnitSound_iff.mpr hf, ha, hw⟩,
    fun ⟨hf, ha, hw⟩ => ⟨State.fitUnitSound_iff.mp hf, ha, hw⟩⟩

namespace State.UnitsSound

variable {s t : State}

/-- With a sound fit unit, the properties read the compensation unit, the window and the newest index. -/
theorem of_fit (h : s.UnitsSound) (hf : t.fit.Sound) (hkeep : (t.air, t.axis, t.newest)
    = (s.air, s.axis, s.newest)) : t.UnitsSound := by
  obtain ⟨-, hage, hwindow⟩ := h
  obtain ⟨ha, hx, hn⟩ : t.air = s.air ∧ t.axis = s.axis ∧ t.newest = s.newest := by simpa using hkeep
  refine ⟨hf, ?_, ?_⟩
  · rwa [State.AgeSound, ha]
  · rwa [State.WindowSound, hx, hn]

theorem congr (h : s.UnitsSound)
    (hkeep : (t.fit, t.air, t.axis, t.newest) = (s.fit, s.air, s.axis, s.newest)) : t.UnitsSound := by
  obtain ⟨hf, hrest⟩ := Prod.mk.inj hkeep
  exact h.of_fit (hf ▸ h.fit) hrest

theorem closeAborted (h : s.UnitsSound) (r : PassReason) : (s.closeAborted r).UnitsSound := by
  obtain ⟨_, _, _, e⟩ := s.closeAborted_shape r
  exact e ▸ h.congr rfl

theorem finishWait (h : s.UnitsSound) (o : RerefOutcome) (c : Option RerefCapture)
    (a : Option RerefApplied) : (s.finishWait o c a).UnitsSound := by
  obtain ⟨_, _, e⟩ := s.finishWait_shape o c a
  exact e ▸ h.congr rfl

theorem ageStep (h : s.UnitsSound) : s.ageStep.UnitsSound := by
  have hage := State.ageSound_ageStep h.age
  obtain ⟨_, _, e⟩ := s.ageStep_shape
  rw [e] at hage ⊢
  exact ⟨h.fit, hage, h.window⟩

/-- The events that are due: a fit event leaves the fit unit sound, AGE_TICK the age, and no event touches
the window. -/
theorem eventInvariant : State.EventInvariant State.UnitsSound where
  frame h := h.congr rfl
  ageStep := ageStep
  fitStart {s} h := by
    obtain ⟨_, _, _, e⟩ := s.fitStart_shape
    exact h.of_fit h.fit.fitStart (e ▸ rfl)
  fitFinish {s} h := by
    obtain ⟨_, _, _, e⟩ := s.fitFinish_shape
    exact h.of_fit h.fit.fitFinish (e ▸ rfl)
  fitTimeout {s} h := by
    obtain ⟨_, _, e⟩ := s.fitTimeout_shape
    exact h.of_fit h.fit.fitTimeout (e ▸ rfl)
  fillSlot h := h.of_fit h.fit.fillSlot rfl
  installPending {s} ch h := by
    obtain ⟨_, _, _, e⟩ := s.installPending_shape ch
    exact h.of_fit (h.fit.installPending ch) (e ▸ rfl)
  runCheck {s} h := by
    obtain ⟨_, _, _, e⟩ := s.runCheck_shape
    exact e ▸ h.congr rfl
  completeCapture {s} h := by
    obtain ⟨_, _, _, _, _, _, e⟩ := s.completeCapture_shape
    exact e ▸ h.congr rfl
  closeAborted r h := h.closeAborted r
  finishWait o c a h := h.finishWait o c a

theorem arrive (h : s.UnitsSound) (a : SampleInput) : (s.arrive a).UnitsSound := by
  rw [State.arrive_eq]
  refine eventInvariant.endings s a.captureFirst ?_
  have hfit : (s.beforeEndings a).fit.Sound := by
    obtain ⟨_, _, he, -⟩ := s.takeSample_eq s.arrivingIndex (s.channelArrivals a)
    rw [State.beforeEndings_fit, State.arrivedFit, he]
    refine FitUnit.Sound.fitArrive ?_ _ _
    exact h.fit
  obtain ⟨f, rr, u, v, he, -⟩ := s.beforeEndings_eq a
  obtain ⟨hle, hstale, hsamples⟩ := h.age
  rw [he] at hfit ⊢
  exact ⟨hfit, ⟨hle, hstale, AirUnit.nextSamples_lt hsamples⟩, State.windowSound_arrive h.window rfl rfl rfl⟩

theorem pulse (h : s.UnitsSound) (edge : Edge) (e : Nat) : (s.pulse edge e).UnitsSound := by
  unfold State.pulse
  repeat' split
  all_goals exact h.congr rfl

theorem serveRecord (h : s.UnitsSound) (line : Int) (eff : LineRecord → RecordEffect) :
    (s.serveRecord line eff).state.UnitsSound := by
  unfold State.serveRecord
  repeat' split
  all_goals exact h.congr rfl

theorem epochMoved (h : s.UnitsSound) (ch : Channel) : (s.epochMoved ch).UnitsSound := by
  obtain ⟨_, e⟩ := s.epochMoved_shape ch
  exact e ▸ h.congr rfl

/-- 02 R32, 03 R53: a channel that is disabled loses its requests. -/
theorem disableChannel (h : s.UnitsSound) (ch : Channel) : (s.disableChannel ch).UnitsSound := by
  have hfit : ((s.setCounter ch (s.chan ch).counter.disable).fitDisable ch).UnitsSound := by
    obtain ⟨_, _, _, e⟩ := (s.setCounter ch (s.chan ch).counter.disable).fitDisable_shape ch
    refine h.of_fit (FitUnit.Sound.fitDisable ?_ ch) (e ▸ rfl)
    exact h.fit
  unfold State.disableChannel State.measuringLost
  dsimp only
  split
  iterate 2 exact (hfit.closeAborted _).finishWait _ _ _
  all_goals exact hfit

theorem serveChannelSet (h : s.UnitsSound) (f : ChannelFields) : (s.serveChannelSet f).state.UnitsSound := by
  have hset (ch : Channel) (u : ChannelUnit) : (s.setChan ch u).UnitsSound := h.congr rfl
  unfold State.serveChannelSet
  split
  · exact h
  next q _ =>
    have hset := hset q.channel ((s.chan q.channel).settings q f)
    dsimp only
    split
    · refine epochMoved ?_ q.channel
      exact hset.congr rfl
    · split
      exacts [hset.disableChannel _, hset]

theorem servePreset (h : s.UnitsSound) (channel : Nat) (p : Int) :
    (s.servePreset channel p).state.UnitsSound := by
  have hpreset (ch : Channel) (c : Counter) : ((s.setCounter ch c).epochMoved ch).UnitsSound := by
    refine epochMoved ?_ ch
    exact h.congr rfl
  unfold State.servePreset
  repeat' split
  iterate 6 exact h
  exacts [hpreset _ _, h, hpreset _ _]

/-- 04 R68: a new record has the age 0, below the top of any limit. -/
theorem serveAirSet (h : s.UnitsSound) (rHost : Int) (ageLimit driftLimit : Nat) :
    (s.serveAirSet rHost ageLimit driftLimit).state.UnitsSound := by
  unfold State.serveAirSet
  split
  · exact h
  · exact ⟨h.fit, ⟨Nat.zero_le _, iff_of_false nofun nofun, Nat.zero_lt_succ _⟩, h.window⟩

/-- 09 R158 step 3: beside CHANNEL_SET, FIT and AIR_SET no request changes what the properties read. -/
theorem serve (h : s.UnitsSound) (r : Request) : (s.serve r).state.UnitsSound := by
  cases r
  case channelSet f => exact h.serveChannelSet f
  case preset c p => exact h.servePreset c p
  case fit c k =>
    obtain ⟨_, _, _, e⟩ := s.serveFit_shape c k
    exact h.of_fit (h.fit.serveFit c k) (by rw [State.serve, e])
  case airSet r a d => exact h.serveAirSet r a d
  case fitSet t => exact h.of_fit ⟨h.fit.claims, h.fit.waiting, h.fit.idle⟩ rfl
  case arm | disarm | retire | drop | clear => exact h.serveRecord _ _
  case passClose =>
    dsimp only [State.serve, State.servePassClose]
    split
    · exact h
    · obtain ⟨_, _, _, e⟩ := s.closeComplete_shape .closeRequest
      exact e ▸ h.congr rfl
  case passAbort =>
    dsimp only [State.serve, State.servePassAbort]
    split
    exacts [h, h.closeAborted _]
  case rerefCancel =>
    dsimp only [State.serve, State.serveRerefCancel]
    split
    exacts [h.finishWait _ _ _, h]
  all_goals
    dsimp only [State.serve, State.servePlace, State.serveAmend, State.serveRead, State.serveStep,
      State.serveClassOp, State.serveReadChannel, State.serveFitResult, State.serveTrackerSet,
      State.serveGeometrySet, State.serveLineSet, State.servePassSet, State.servePassOpen,
      State.serveReref, State.serveDriveSet, State.serveLinkSet]
    repeat' split
    all_goals exact ⟨h.fit, h.age, h.window⟩

theorem restartAll (s : State) (straps : Nat) : (s.restartAll straps).UnitsSound := by
  rw [State.restartAll_eq]
  exact ⟨.fitRestart s, ⟨le_rfl, iff_of_true rfl rfl, Nat.zero_lt_succ _⟩, ⟨Nat.zero_le _, trivial, nofun⟩⟩

theorem powerOn (s : State) (straps : Nat) : (s.powerOn straps).UnitsSound := by
  have hreset : State.reset.UnitsSound :=
    State.unitsSound_iff.mpr ⟨State.fitUnitSound_reset, State.ageSound_reset, by decide, trivial, nofun⟩
  exact hreset.congr rfl

theorem stepInvariant : State.StepInvariant State.UnitsSound :=
  { eventInvariant with
    arrive := fun a h => h.arrive a
    pulse := fun edge e h => h.pulse edge e
    serve := fun r h => h.serve r
    restartAll := fun {s} straps _ => restartAll s straps
    powerOn := powerOn }

end State.UnitsSound

/-- Settles O57: the three properties together are a step invariant. -/
theorem unitsStaySound : Obligations.UnitsStaySound := by
  intro s t h e
  exact State.unitsSound_iff.mp (State.UnitsSound.stepInvariant.step (State.unitsSound_iff.mpr h) e)

end Sys2Proof.Machine
end

/-! ### The arithmetic of a completed fit (03 R47, R48) -/

section
namespace Sys2Proof.Machine

/-- 00 "Clamped": a value is changed exactly when it lies outside its range. -/
theorem ne_clamp_iff {lo hi x : Int} (h : lo ≤ hi) : x ≠ clamp lo hi x ↔ x < lo ∨ hi < x := by
  unfold clamp
  omega

/-- 03 R47 step 1, R48 step 1: the midpoint is the floor of half the sum. -/
theorem midpoint_eq_fdiv (a b : Int) : midpoint a b = Int.fdiv (a + b) 2 :=
  (Int.fdiv_eq_ediv_of_nonneg _ (by decide)).symm

/-- 03 R47 step 3, R48 step 4: a half-axis, kept doubled, is below the floor. -/
theorem weakAxes_iff {floor : Nat} {a2 b2 : Int} :
    weakAxes floor a2 b2 = true ↔ a2 < 2 * (floor : Int) ∨ b2 < 2 * (floor : Int) := by
  simp [weakAxes]

/-! #### Long fits (03 R47) -/

section
variable {floor : Nat} {e : Extremes} {a2 b2 v : Int}

theorem longArithmetic_of_weak (ha : a2 = e.maxC - e.minC) (hb : b2 = e.maxS - e.minS)
    (hv : v = e.sAtMaxC - midpoint e.maxS e.minS)
    (h : a2 < 2 * (floor : Int) ∨ b2 < 2 * (floor : Int) ∨ b2 ≤ 4 * (v.natAbs : Int)) :
    longArithmetic floor e =
      ⟨some (a2, b2), none, false, some (midpoint e.maxC e.minC, midpoint e.maxS e.minS)⟩ := by
  subst ha hb hv
  rw [longArithmetic]
  exact if_pos (by simpa [weakAxes_iff, or_assoc] using h)

theorem longArithmetic_of_strong (ha : a2 = e.maxC - e.minC) (hb : b2 = e.maxS - e.minS)
    (hv : v = e.sAtMaxC - midpoint e.maxS e.minS)
    (ha2 : 2 * (floor : Int) ≤ a2) (hb2 : 2 * (floor : Int) ≤ b2) (hv4 : 4 * (v.natAbs : Int) < b2)
    {g σ : Int} (hg : g = roundDivSqrt (32768 * a2) (b2 ^ 2 - 4 * v ^ 2))
    (hσ : σ = roundDivSqrt (32768 * (2 * v)) (b2 ^ 2 - 4 * v ^ 2)) :
    longArithmetic floor e =
      ⟨some (a2, b2), some ⟨midpoint e.maxC e.minC, midpoint e.maxS e.minS, clamp 16384 65535 g,
        clamp (-8192) 8192 σ⟩, decide (g ≠ clamp 16384 65535 g ∨ σ ≠ clamp (-8192) 8192 σ), none⟩ := by
  have hstrong : ¬(weakAxes floor a2 b2 || decide (b2 ≤ 4 * (v.natAbs : Int))) = true := by
    simp only [Bool.or_eq_true, weakAxes_iff, decide_eq_true_eq]
    omega
  have hd : b2 ^ 2 - 4 * v ^ 2 = b2 * b2 - 4 * v * v := by ring
  rw [hd] at hg hσ
  subst ha hb hv hg hσ
  rw [longArithmetic]
  exact if_neg hstrong

end

/-- Settles O27: a long fit is weak or has its set, and a set is clamped where a value lies outside. -/
theorem longFitFollowsExtremes : Obligations.LongFitFollowsExtremes := by
  intro floor e a2 b2 v d ha hb hv hd
  rw [← midpoint_eq_fdiv] at hv
  simp only [← midpoint_eq_fdiv]
  subst hd
  refine ⟨fun hweak => ?_, fun ha2 hb2 hv4 => ?_⟩
  · rw [longArithmetic_of_weak ha hb hv hweak]
    exact ⟨rfl, rfl, rfl⟩
  · rw [longArithmetic_of_strong ha hb hv ha2 hb2 hv4 rfl rfl]
    refine ⟨rfl, rfl, ?_⟩
    rw [decide_eq_true_iff, ne_clamp_iff (by decide), ne_clamp_iff (by decide), or_assoc]

/-! #### Short fits (03 R48) -/

/-- 03 R48 step 2: the step of an offset goes toward its midpoint, at most 16 and at most an eighth of the way,
and short of 16 it is the whole eighth. -/
theorem offsetStep_toward {mid o step : Int} (h : step = offsetStep mid o) :
    step.natAbs ≤ 16 ∧ 8 * step.natAbs ≤ (mid - o).natAbs
      ∧ (o ≤ mid → 0 ≤ step) ∧ (mid ≤ o → step ≤ 0)
      ∧ ((mid - o).natAbs < 136 → (mid - o).natAbs < 8 * (step.natAbs + 1)) := by
  unfold offsetStep clamp at h
  rcases Int.le_total o mid with hle | hle
  · rw [Int.tdiv_eq_ediv_of_nonneg (by omega)] at h
    omega
  · rw [← neg_sub, Int.neg_tdiv, Int.tdiv_eq_ediv_of_nonneg (by omega)] at h
    omega

section
variable {floor : Nat} {old : EllipseSet} {e : Extremes} {a2 b2 : Int}

theorem shortArithmetic_of_weak (ha : a2 = e.maxC - e.minC) (hb : b2 = e.maxS - e.minS)
    (h : a2 < 2 * (floor : Int) ∨ b2 < 2 * (floor : Int)) :
    shortArithmetic floor old e = ⟨some (a2, b2), none, false, none⟩ := by
  subst ha hb
  rw [shortArithmetic]
  exact if_pos (weakAxes_iff.mpr h)

theorem shortArithmetic_of_strong (ha : a2 = e.maxC - e.minC) (hb : b2 = e.maxS - e.minS)
    (h : ¬(a2 < 2 * (floor : Int) ∨ b2 < 2 * (floor : Int))) :
    shortArithmetic floor old e =
      ⟨some (a2, b2),
        some ⟨old.offsetC + offsetStep (midpoint e.maxC e.minC) old.offsetC,
          old.offsetS + offsetStep (midpoint e.maxS e.minS) old.offsetS, old.g, old.sigma⟩, false, none⟩ := by
  subst ha hb
  rw [shortArithmetic]
  exact if_neg (weakAxes_iff.not.mpr h)

end

/-- Settles O28: a short fit is weak or steps each offset toward its midpoint. -/
theorem shortFitStepsTowardMidpoint : Obligations.ShortFitStepsTowardMidpoint := by
  intro floor old e a2 b2 midC midS q hq ha hb hC hS
  rw [← midpoint_eq_fdiv] at hC hS
  by_cases hweak : a2 < 2 * (floor : Int) ∨ b2 < 2 * (floor : Int)
  · rw [shortArithmetic_of_weak ha hb hweak] at hq
    subst hq
    exact ⟨rfl, rfl, rfl, iff_of_true rfl hweak, fun _ _ => by omega, nofun⟩
  · rw [shortArithmetic_of_strong ha hb hweak, ← hC, ← hS] at hq
    subst hq
    refine ⟨rfl, rfl, rfl, iff_of_false nofun hweak, fun _ _ => rfl, fun new hnew => ?_⟩
    cases hnew
    refine ⟨rfl, rfl, fun o mid n hside => ?_⟩
    have hstep : n - o = offsetStep mid o := by
      rcases hside with ⟨rfl, rfl, rfl⟩ | ⟨rfl, rfl, rfl⟩ <;> exact add_sub_cancel_left _ _
    obtain ⟨hmost, heighth, hup, hdown, hwhole⟩ := offsetStep_toward hstep
    exact ⟨hmost, heighth, fun hle => by have := hup hle; omega, fun hle => by have := hdown hle; omega, hwhole⟩

end Sys2Proof.Machine
end

/-! ### The events of the fit unit and the timers (03 R42 to R46, R51, R52, R54, 08 R142, R148) -/

section
namespace Sys2Proof.Machine

/-! #### A sample observed (03 R43, R44, R52) -/

theorem EstimateKind.travel_eq (k : EstimateKind) : k.travel = if k = .long then 16384 else 4096 := by
  cases k <;> rfl

/-- 03 R43: an empty accumulator after its first sample. -/
theorem Accumulator.add_empty (m : ChannelSample) :
    Accumulator.empty.add m =
      { observed := 1, unclipped := if m.clipped then 0 else 1, travel := (m.step.getD 0).natAbs
        extremes := if m.clipped then none else some ⟨m.c, m.c, m.s, m.s, m.s⟩ } := by
  simp [Accumulator.add, Accumulator.empty]

/-- 03 R54: a working fit that ends without a new set: the slot empties, the record is replaced, FIT_DONE. -/
theorem State.endWorking_eq {s : State} {k : Nat} (hk : s.newest = some k) (r : FitRequest)
    (o : FitOutcome) :
    s.endWorking r o =
      (s.withFit
        { s.fit with
          working := none, timer := none, acc := ⟨0, 0, 0, none⟩
          result := s.fit.result.set r.channel (some
            { s.workingRecord r o with endSample := k }) }).raise .fitDone := by
  rw [← State.newestIndex_of_some hk]
  rfl

section
variable {s : State} {r : FitRequest} {m : ChannelSample}

/-- 03 R43, R44: a sample of a channel that counts is collected. -/
theorem State.fitObserve_of_counting (hw : s.fit.working = some r)
    (hm : s.arrival.samples.get r.channel = some m)
    (hst : (s.chan r.channel).counter.state = .unreferenced ∨ (s.chan r.channel).counter.state = .tracking) :
    s.fitObserve =
      if r.kind.travel ≤ (s.fit.acc.add m).travel then
        (s.withFit { s.fit with acc := s.fit.acc.add m, timer := none }).withArrival
          { s.arrival with fitComplete := true }
      else s.withFit { s.fit with acc := s.fit.acc.add m } := by
  rcases hst with hst | hst <;> simp only [State.fitObserve, hw, hm, hst]

/-- 03 R52: on a lost signal the fit ends and the sample is not collected. -/
theorem State.fitObserve_of_lost (hw : s.fit.working = some r)
    (hm : s.arrival.samples.get r.channel = some m)
    (hst : (s.chan r.channel).counter.state = .coasting ∨ (s.chan r.channel).counter.state = .dark) :
    s.fitObserve = s.endWorking r .abandonedSignal := by
  rcases hst with hst | hst <;> simp only [State.fitObserve, hw, hm, hst]

/-- 03 R43, R46: a fit that begins fills an empty accumulator and starts the timer. -/
theorem State.fitStart_of_mem {k : Nat} (hw : s.fit.working = some r) (hk : s.newest = some k) :
    s.fitStart =
      (s.withFit
        { s.fit with acc := .empty, timer := some ⟨k, s.fit.timeoutMs⟩ }).fitObserve := by
  simp only [State.fitStart, hw, State.newestIndex_of_some hk]

/-- 03 R43: the first sample of a fit; one step is less than the fit travel. -/
theorem State.fitStart_of_counting {k : Nat} (hw : s.fit.working = some r) (hk : s.newest = some k)
    (hm : s.arrival.samples.get r.channel = some m)
    (hst : (s.chan r.channel).counter.state = .unreferenced ∨ (s.chan r.channel).counter.state = .tracking)
    (hstep : (m.step.getD 0).natAbs < 4096) :
    s.fitStart =
      s.withFit
        { s.fit with timer := some ⟨k, s.fit.timeoutMs⟩, acc := Accumulator.empty.add m } := by
  have hshort : ¬r.kind.travel ≤ (Accumulator.empty.add m).travel := by
    have hone : (Accumulator.empty.add m).travel = (m.step.getD 0).natAbs := by rw [Accumulator.add_empty]
    rw [hone, EstimateKind.travel_eq]
    split <;> omega
  rw [State.fitStart_of_mem hw hk]
  refine (State.fitObserve_of_counting (r := r) (m := m) ?_ ?_ ?_).trans (if_neg hshort)
  exacts [hw, hm, hst]

/-- 03 R52: on a signal lost at its first sample the fit ends with nothing collected. -/
theorem State.fitStart_of_lost {k : Nat} (hw : s.fit.working = some r) (hk : s.newest = some k)
    (hm : s.arrival.samples.get r.channel = some m)
    (hst : (s.chan r.channel).counter.state = .coasting ∨ (s.chan r.channel).counter.state = .dark) :
    s.fitStart =
      (s.withFit { s.fit with acc := .empty, timer := some ⟨k, s.fit.timeoutMs⟩ }).endWorking r
        .abandonedSignal := by
  rw [State.fitStart_of_mem hw hk]
  refine State.fitObserve_of_lost (m := m) ?_ ?_ ?_
  exacts [hw, hm, hst]

end

theorem exec_fitBegin_of_due {s : State} (h : s.arrival.fitBegin = true) :
    exec .fitBegin s = .next (s.withArrival { s.arrival with fitBegin := false }).fitStart := by
  rw [exec, execFitBegin, State.takeFitBegin, if_pos h]

theorem FitUnit.fillSlot_of_waiting {f : FitUnit} {r : FitRequest} {rest : List FitRequest}
    (hw : f.working = none) (hq : f.queue = r :: rest) :
    f.fillSlot = { f with working := some r, queue := rest } := by
  simp only [FitUnit.fillSlot, hw, hq]

/-- Settles O25: the fit begins on an empty accumulator and observes its first sample; the slot fills when it
is empty. -/
theorem fitBeginsAndSlotFills : Obligations.FitBeginsAndSlotFills := by
  intro s
  refine ⟨fun hdue => ?_, fun r m k hdue hw hk hm => ⟨fun hst hstep => ?_, fun hst => ?_⟩, fun hfull => ?_,
    fun r rest hw hq => ?_⟩
  · rw [exec, execFitBegin, State.takeFitBegin, if_neg (by simp [hdue])]
  · obtain ⟨u, hu⟩ : ∃ u, u = s.withArrival { s.arrival with fitBegin := false } := ⟨_, rfl⟩
    rw [exec_fitBegin_of_due hdue, ← hu, State.fitStart_of_counting (r := r) (k := k) (m := m) (hu ▸ hw)
      (hu ▸ hk) (hu ▸ hm) (hu ▸ hst) hstep, Accumulator.add_empty, hu]
    rfl
  · obtain ⟨u, hu⟩ : ∃ u, u = s.withArrival { s.arrival with fitBegin := false } := ⟨_, rfl⟩
    rw [exec_fitBegin_of_due hdue, ← hu, State.fitStart_of_lost (r := r) (k := k) (m := m) (hu ▸ hw)
      (hu ▸ hk) (hu ▸ hm) (hu ▸ hst), State.endWorking_eq (k := k) (hu ▸ hk), hu]
    rfl
  · refine congrArg Host.Outcome.next (State.takeSlotFill_of_full ?_)
    exact hfull.imp_left Option.isSome_iff_ne_none.mpr
  · rw [exec, execSlotFill, State.takeSlotFill, FitUnit.fillSlot_of_waiting hw hq]

/-! #### The timers (03 R45, 08 R142, R148) -/

/-- 03 R45, log entry 12: when the expiry of the fit timer can be taken. -/
theorem State.fitTimerOut_iff {s : State} {lead : Nat} :
    s.fitTimerOut lead = true ↔
      ∃ first ms k, s.fit.timer = some ⟨first, ms⟩ ∧ s.newest = some k ∧ first + ms * 10000 ≤ k + lead := by
  unfold State.fitTimerOut
  split
  next t k ht hk =>
    rw [decide_eq_true_iff]
    constructor
    · exact fun hout => ⟨t.firstSample, t.timeoutMs, k, ht, hk, hout⟩
    · rintro ⟨first, ms, k', ht', hk', hout⟩
      cases ht.symm.trans ht'
      cases hk.symm.trans hk'
      exact hout
  next hnone =>
    simp only [Bool.false_eq_true, false_iff]
    rintro ⟨first, ms, k, ht, hk, -⟩
    exact hnone _ _ ht hk

/-- Settles O31: the two timers, due and not due. -/
theorem timersExpire : Obligations.TimersExpire := by
  intro s
  refine ⟨fun r first ms k hcomplete hw ht hk => ⟨fun hbefore => ?_, fun hout => ?_⟩, fun hidle => ?_,
    fun hdue => ?_, fun w k hdue hw hk => ?_⟩
  · have hnot : s.fitTimerOut 1 = false := by
      rw [Bool.eq_false_iff, Ne, State.fitTimerOut_iff]
      rintro ⟨first', ms', k', ht', hk', hout⟩
      simp only [ht, hk, Option.some.injEq, FitTimer.mk.injEq] at ht' hk'
      omega
    simp only [exec, execFitTimerExpiry, State.takeFitTimer, hnot, Bool.false_and, Bool.false_eq_true,
      if_false]
  · have hyes : s.fitTimerOut 1 = true := State.fitTimerOut_iff.mpr ⟨first, ms, k, ht, hk, hout⟩
    simp only [exec, execFitTimerExpiry, State.takeFitTimer, hyes, hcomplete, Bool.not_false, Bool.and_self,
      if_true, State.fitTimeout, hw, State.endWorking_eq hk]
    rfl
  · refine congrArg Host.Outcome.next ?_
    unfold State.takeFitTimer
    split
    next hdue =>
      simp only [Bool.and_eq_true, State.fitTimerOut_iff, Bool.not_eq_true'] at hdue
      obtain ⟨⟨first, ms, k, ht, hk, -⟩, hcomplete⟩ := hdue
      simp only [ht, hk, hcomplete, reduceCtorEq, Bool.false_eq_true, false_or, or_false] at hidle
      simp only [State.fitTimeout, hidle]
    next => rfl
  · rw [exec, execRerefTimerExpiry, State.takeRerefExpiry, if_neg (by simp [hdue])]
  · obtain ⟨u, hu⟩ : ∃ u, u = s.withArrival { s.arrival with rerefExpiry := false } := ⟨_, rfl⟩
    rw [exec, execRerefTimerExpiry, State.takeRerefExpiry, if_pos hdue, ← hu,
      State.finishWait_eq (w := w) (hu ▸ hw), State.newestIndex_of_some (k := k) (hu ▸ hk)]

/-! #### A pending reset (03 R51, R54) -/

/-- A wrapped phase difference lies in −512..511 and is congruent to the difference. -/
theorem wrapPhase_mem (d : Int) :
    -512 ≤ wrapPhase d ∧ wrapPhase d ≤ 511 ∧ (d - wrapPhase d) % 1024 = 0 := by
  unfold wrapPhase
  omega

section
variable {s : State} {ch : Channel} {m : ChannelSample}

/-- 03 R51: with a phase the nominal set is installed as a swap. -/
theorem State.installPending_of_phase (hm : s.arrival.samples.get ch = some m)
    (hst : (s.chan ch).counter.state = .unreferenced ∨ (s.chan ch).counter.state = .tracking) :
    s.installPending ch =
      ((s.clearPendingReset ch).swap ch .nominal m.c m.s).fitOutcome ch
        (s.resetRecord ch .applied
          (some (swapJump (s.chan ch).front.sense (s.chan ch).front.params .nominal m.c m.s))) := by
  have hm' : (s.clearPendingReset ch).arrival.samples.get ch = some m := hm
  rcases hst with hst | hst <;>
  · have hst' : ((s.clearPendingReset ch).chan ch).counter.state = _ := hst
    simp only [State.installPending, hm', hst']
    rfl

/-- 03 R51: without one it is installed as it is. -/
theorem State.installPending_of_lost
    (hst : ¬((s.chan ch).counter.state = .unreferenced ∨ (s.chan ch).counter.state = .tracking)) :
    s.installPending ch = (s.clearPendingReset ch).installNominal ch := by
  have hst' : ¬(((s.clearPendingReset ch).chan ch).counter.state = .unreferenced
      ∨ ((s.clearPendingReset ch).chan ch).counter.state = .tracking) := hst
  unfold State.installPending
  dsimp only
  split
  next h => exact absurd (.inl h) hst'
  next h => exact absurd (.inr h) hst'
  next => rfl

/-- 03 R54: an outcome raises FIT_DONE. -/
theorem State.mem_fitOutcome (s : State) (ch : Channel) (q : FitResult) :
    Event.fitDone.mem (s.fitOutcome ch q).status.sticky = true := by
  rw [State.fitOutcome, State.mem_raise, decide_eq_true rfl, Bool.or_true]

end

/-- Settles O32: the reset is installed as a swap or without a phase; either way the record is that of a
RESET. -/
theorem resetInstalls : Obligations.ResetInstalls := by
  intro s ch
  refine ⟨fun hdue => ?_, ?_⟩
  · rw [exec, execResetInstall, State.takeResetInstall, if_neg (by simp [hdue])]
  rintro m k u nominal rfl hdue hk hm rfl
  obtain ⟨w, hw⟩ : ∃ w, w = s.withArrival
      { s.arrival with resetInstall := s.arrival.resetInstall.set ch false } := ⟨_, rfl⟩
  have hexec : exec (.resetInstall ch) s = .next (w.installPending ch) := by
    rw [exec, execResetInstall, State.takeResetInstall, if_pos hdue, hw]
  refine ⟨_, hexec, ?_⟩
  have hend : w.newestIndex = k := State.newestIndex_of_some (hw ▸ hk)
  have hother (c : Channel) (hc : c ≠ ch) (v : ChannelUnit) : (w.setChan ch v).chan c = s.chan c := by
    rw [State.chan_setChan, if_neg hc, hw]
    rfl
  have hresult (t : State) (q : FitResult) : (t.fitOutcome ch q).fit.result.get ch = some q :=
    (State.fitOutcome_result q).trans (if_pos rfl)
  have hclear : (w.clearPendingReset ch).fit.pendingReset.get ch = false :=
    (PerChannel.get_set _ _ _ _).trans (if_pos rfl)
  by_cases hst : (s.chan ch).counter.state = .unreferenced ∨ (s.chan ch).counter.state = .tracking
  · rw [State.installPending_of_phase (m := m) (hw ▸ hm) (hw ▸ hst)]
    refine ⟨hclear, hw ▸ rfl, hw ▸ rfl, State.mem_fitOutcome _ _ _, fun c hc => hother c hc _, _,
      hresult _ _, rfl, rfl, rfl, hend, hw ▸ rfl, rfl, rfl, fun _ => ⟨?_, _, rfl, ?_⟩, fun hlost => ?_⟩
    · exact (State.chan_setChan_self _ _ _).trans (hw ▸ rfl)
    · obtain ⟨hlow, hhigh, hmod⟩ := wrapPhase_mem _
      exact ⟨hlow, hhigh, hw ▸ hmod⟩
    · rcases hst with hst | hst <;> simp [hst] at hlost
  · rw [State.installPending_of_lost (hw ▸ hst)]
    refine ⟨hclear, hw ▸ rfl, hw ▸ rfl, State.mem_fitOutcome _ _ _, fun c hc => hother c hc _, _,
      hresult _ _, rfl, rfl, rfl, hend, hw ▸ rfl, rfl, rfl, fun hphase => absurd hphase hst, fun _ => ⟨?_, rfl⟩⟩
    exact (State.chan_setChan_self _ _ _).trans (hw ▸ rfl)

end Sys2Proof.Machine
end

/-! ### FIT and FIT_RESET (03 R39, R40, R50, R51, R54) -/

section
namespace Sys2Proof.Machine

/-! #### The answer -/

section
variable {s t : State} {h : Header} {c kind : Nat} {st : Status}

/-- 09 R159, 03 R40, R50: a FIT request is answered without data; it leaves the link alone. -/
theorem exec_fit_of_served (q : s.Ready h) (hv : s.serveFit c kind = { state := t, status := st }) :
    exec (.fit h c kind) s = .next (t.answered h 0x28 st []) := by
  have hlink : t.link = s.link := by
    obtain ⟨_, _, _, e⟩ := s.serveFit_shape c kind
    rw [hv] at e
    exact (congrArg (fun t : State => t.link) e :)
  have hanswer := State.request_answered q (r := .fit c kind) hv
    ((congrArg LinkUnit.station hlink).trans q.2.1)
  rw [show (if Status.taken st then ([] : Bytes) else []) = [] from ite_self _] at hanswer
  exact congrArg Host.Outcome.next hanswer

/-- FIT_RESET is FIT of kind RESET (log entry 20). -/
theorem exec_fitReset (h : Header) (c : Nat) (s : State) :
    exec (.fitReset h c) s = exec (.fit h c 2) s := rfl

end

/-! #### The tests (03 R40, R50) -/

section
variable {s : State} {c kind : Nat} {ch : Channel} {est : EstimateKind}

theorem State.serveFit_of_out (hout : 3 < c ∨ 2 < kind) : s.serveFit c kind = s.refuse .range := by
  unfold State.serveFit
  split
  next => rfl
  next hc =>
    have hkind : 2 < kind := hout.resolve_left fun h => by
      rw [channelOfCode_eq_none_iff.mpr h] at hc
      cases hc
    split
    iterate 3 omega
    rfl

theorem State.serveFit_estimate (hc : channelOfCode c = some ch)
    (hkind : kind = 0 ∧ est = .long ∨ kind = 1 ∧ est = .short) :
    s.serveFit c kind = s.serveEstimate ch est := by
  rcases hkind with ⟨rfl, rfl⟩ | ⟨rfl, rfl⟩ <;> simp only [State.serveFit, hc]

theorem State.serveFit_reset (hc : channelOfCode c = some ch) : s.serveFit c 2 = s.serveReset ch := by
  simp only [State.serveFit, hc]

theorem fitStateOk_iff (st : ChannelState) :
    fitStateOk st = true ↔ st = .unreferenced ∨ st = .tracking := by
  cases st <;> decide

/-- 03 R40: the state test, then the test for another request. -/
theorem State.serveEstimate_of_state (hst : (s.chan ch).counter.state = .off
      ∨ (s.chan ch).counter.state = .dark ∨ (s.chan ch).counter.state = .coasting) :
    s.serveEstimate ch est = s.refuse .state := by
  rcases hst with hst | hst | hst <;> simp [State.serveEstimate, hst, fitStateOk]

theorem State.serveEstimate_of_claimed
    (hst : (s.chan ch).counter.state = .unreferenced ∨ (s.chan ch).counter.state = .tracking)
    (hclaim : ch ∈ s.fit.claims) : s.serveEstimate ch est = s.refuse .busy := by
  simp [State.serveEstimate, (fitStateOk_iff _).mpr hst, (s.fit.holds_iff_mem_claims ch).mpr hclaim]

theorem State.serveEstimate_of_free
    (hst : (s.chan ch).counter.state = .unreferenced ∨ (s.chan ch).counter.state = .tracking)
    (hfree : ch ∉ s.fit.claims) :
    s.serveEstimate ch est =
      { state := s.withFit (s.fit.submit ⟨ch, est, .host⟩), status := .accepted } := by
  simp [State.serveEstimate, (fitStateOk_iff _).mpr hst, mt (s.fit.holds_iff_mem_claims ch).mp hfree]

theorem State.serveReset_of_clear (hp : s.fit.pendingReset.get ch = false) :
    s.serveReset ch = { state := s.takeReset ch, status := .accepted } := by
  rw [State.serveReset, if_neg (by simp [hp])]

theorem FitUnit.submit_of_empty {f : FitUnit} (hw : f.working = none) (r : FitRequest) :
    f.submit r = { f with working := some r } := by
  simp only [FitUnit.submit, hw]

theorem FitUnit.submit_of_full {f : FitUnit} (hw : f.working ≠ none) (r : FitRequest) :
    f.submit r = { f with queue := f.queue ++ [r] } := by
  obtain ⟨q, hq⟩ := Option.ne_none_iff_exists'.mp hw
  simp only [FitUnit.submit, hq]

end

/-! #### A RESET that is taken (03 R50, R51) -/

section
variable {s : State} {ch : Channel}

theorem State.endRequests_chan (s : State) (ch c : Channel) (o : FitOutcome) :
    (s.endRequests ch o).chan c = s.chan c :=
  congrArg (fun p : PerChannel ChannelUnit => p.get c) (s.requestsEnded_endRequests ch o).channels

/-- 03 R51: on an UNREFERENCED or TRACKING channel the reset becomes pending. -/
theorem State.takeReset_of_phase
    (hst : (s.chan ch).counter.state = .unreferenced ∨ (s.chan ch).counter.state = .tracking) :
    s.takeReset ch =
      (s.endRequests ch .abandonedReset).withFit
        { (s.endRequests ch .abandonedReset).fit with
          pendingReset := (s.endRequests ch .abandonedReset).fit.pendingReset.set ch true } := by
  rw [← s.endRequests_chan ch ch .abandonedReset] at hst
  rw [State.takeReset, ← State.endRequests]
  rcases hst with hst | hst <;> simp only [hst]

/-- 03 R51: on any other channel it is installed at once. -/
theorem State.takeReset_of_lost
    (hst : (s.chan ch).counter.state = .off ∨ (s.chan ch).counter.state = .dark
      ∨ (s.chan ch).counter.state = .coasting) :
    s.takeReset ch = (s.endRequests ch .abandonedReset).installNominal ch := by
  rw [← s.endRequests_chan ch ch .abandonedReset] at hst
  rw [State.takeReset, ← State.endRequests]
  rcases hst with hst | hst | hst <;> simp only [hst]

theorem FitUnit.mem_claims {f : FitUnit} :
    ch ∈ f.claims ↔ (∃ r, f.working = some r ∧ r.channel = ch) ∨ (∃ r ∈ f.queue, r.channel = ch)
      ∨ f.pendingReset.get ch = true := by
  simp [FitUnit.claims, mem_allChannels]

theorem State.endWorkingOf_of_other {o : FitOutcome}
    (h : ∀ r, s.fit.working = some r → r.channel ≠ ch) : s.endWorkingOf ch o = s := by
  unfold State.endWorkingOf
  split
  next => rfl
  next r hr => exact if_neg (h r hr)

/-- Without a request of the channel nothing ends. -/
theorem State.endRequests_of_unclaimed {o : FitOutcome} (h : ch ∉ s.fit.claims) : s.endRequests ch o = s := by
  simp only [FitUnit.mem_claims, not_or, not_exists, not_and] at h
  obtain ⟨hworking, hqueue, -⟩ := h
  have hnone : s.fit.queue.find? (fun r => r.channel == ch) = none :=
    List.find?_eq_none.mpr fun r hr => by simpa using hqueue r hr
  rw [State.endRequests, State.endWorkingOf_of_other hworking, State.endWaiting, hnone]

/-- A waiting request of the channel leaves the queue, the others in their order. -/
theorem State.endRequests_of_waiting {before after : List FitRequest} {r : FitRequest} {k : Nat}
    {o : FitOutcome} (hk : s.newest = some k)
    (hw : ∀ q, s.fit.working = some q → q.channel ≠ ch) (hq : s.fit.queue = before ++ r :: after)
    (hr : r.channel = ch) (hothers : ∀ q ∈ before ++ after, q.channel ≠ ch) :
    s.endRequests ch o =
      (s.withFit
        { s.fit with
          queue := before ++ after
          result := s.fit.result.set ch (some
            { kind := r.kind.fitKind, origin := r.origin, outcome := o
              endSample := k, observed := 0, unclipped := 0, travel := 0
              extremes := none, halfAxes := none, oldSet := (s.chan ch).front.params
              newSet := none, jump := none, weakOffsets := none }) }).raise .fitDone := by
  have hbefore : ∀ q ∈ before, q.channel ≠ ch := fun q hmem => hothers q (List.mem_append_left _ hmem)
  have hfind : s.fit.queue.find? (fun q => q.channel == ch) = some r := by
    rw [hq, List.find?_append, List.find?_eq_none.mpr fun q hmem => by simpa using hbefore q hmem]
    simp [hr]
  have hleave : s.fit.queue.filter (fun q => !(q.channel == ch)) = before ++ after := by
    have hstay : (before ++ after).filter (fun q => !(q.channel == ch)) = before ++ after :=
      List.filter_eq_self.mpr fun q hmem => by simpa using hothers q hmem
    rw [← hstay, hq]
    simp [hr]
  rw [State.endRequests, State.endWorkingOf_of_other hw, State.endWaiting, hfind]
  dsimp only
  rw [← hleave, ← State.newestIndex_of_some hk]
  rfl

/-- 03 R51, R54: the nominal set installed, with the record of a RESET. -/
theorem State.installNominal_eq {k : Nat} (hk : s.newest = some k) :
    s.installNominal ch =
      ((s.withChannels (s.channels.set ch
          { s.chan ch with front := { (s.chan ch).front with params := .nominal } })).withFit
        { s.fit with
          result := s.fit.result.set ch (some
            { kind := .reset, origin := .host, outcome := .applied, endSample := k
              observed := 0, unclipped := 0, travel := 0, extremes := none
              halfAxes := none, oldSet := (s.chan ch).front.params
              newSet := some .nominal, jump := none, weakOffsets := none }) }).raise .fitDone := by
  rw [← State.newestIndex_of_some hk]
  rfl

theorem State.installNominal_counter (s : State) (ch : Channel) :
    ((s.installNominal ch).chan ch).counter = (s.chan ch).counter :=
  (congrArg ChannelUnit.counter (s.chan_setChan_self ch
    { s.chan ch with front := { (s.chan ch).front with params := .nominal } }) :)

/-- 10 R173: an event raised twice is raised once. -/
theorem EventSet.add_add (S : EventSet) (e : Event) : EventSet.add (S.add e) e = S.add e := by
  simp only [EventSet.add, BitVec.or_assoc, BitVec.or_self]

/-- 03 R51: installed after a request of the channel has ended, the RESET's record replaces that request's. -/
theorem State.installNominal_of_ended {k : Nat} (hk : s.newest = some k) (f : FitUnit)
    (p : PerChannel (Option FitResult)) (q : FitResult) :
    ((s.withFit { f with result := p.set ch (some q) }).raise .fitDone).installNominal ch =
      ((s.withChannels (s.channels.set ch
          { s.chan ch with front := { (s.chan ch).front with params := .nominal } })).withFit
        { f with
          result := p.set ch (some
            { kind := .reset, origin := .host, outcome := .applied, endSample := k
              observed := 0, unclipped := 0, travel := 0, extremes := none
              halfAxes := none, oldSet := (s.chan ch).front.params
              newSet := some .nominal, jump := none, weakOffsets := none }) }).raise .fitDone := by
  obtain ⟨t, ht⟩ : ∃ t, t = (s.withFit { f with result := p.set ch (some q) }).raise .fitDone := ⟨_, rfl⟩
  rw [← ht, State.installNominal_eq (k := k) (ht ▸ hk), ht]
  unfold State.raise
  simp only [State.withStatus_status, State.withFit_status, State.withChannels_status, EventSet.add_add,
    State.withStatus_fit, State.withFit_fit, PerChannel.set_set]
  rfl

/-- 03 R50: the end of a working fit raises FIT_DONE. -/
theorem State.mem_endRequests {o : FitOutcome} {r : FitRequest} (hw : s.fit.working = some r)
    (hr : r.channel = ch) : Event.fitDone.mem (s.endRequests ch o).status.sticky = true := by
  have hworking : Event.fitDone.mem (s.endWorkingOf ch o).status.sticky = true := by
    rw [State.endWorkingOf, hw]
    dsimp only
    rw [if_pos hr]
    exact s.mem_fitOutcome _ _
  rw [State.endRequests, State.endWaiting]
  split
  · exact hworking
  · exact State.mem_fitOutcome _ _ _

end

/-- Settles O52: the tests of `serveFit` in their order, and a RESET by what it ends first. -/
theorem fitRequestsServed : Obligations.FitRequestsServed := by
  intro s h c kind q
  have hreset {ch : Channel} (hc : channelOfCode c = some ch) (hp : s.fit.pendingReset.get ch = false) :
      exec (.fitReset h c) s = .next ((s.takeReset ch).answered h 0x28 .accepted []) := by
    rw [exec_fitReset, exec_fit_of_served q ((State.serveFit_reset hc).trans (State.serveReset_of_clear hp))]
  refine ⟨fun hout => exec_fit_of_served q (State.serveFit_of_out hout), fun hout => ?_, ?_⟩
  · rw [exec_fitReset]
    exact exec_fit_of_served q (State.serveFit_of_out (.inl hout))
  rintro ch u est hc rfl hkind
  have hestimate := State.serveFit_estimate (s := s) hc hkind
  refine ⟨fun hst => ?_, fun hst hclaim => ?_, fun hst hfree => ⟨fun hw => ?_, fun hw => ?_⟩, fun hp => ?_,
    fun hp hfree => ⟨fun hst => ?_, fun k hk hst => ?_⟩, fun r hp hw hr => ?_,
    fun before after r k hk hp hw hq hr hothers => ⟨fun hst => ?_, fun hst => ?_⟩⟩
  · exact exec_fit_of_served q (hestimate.trans (State.serveEstimate_of_state hst))
  · exact exec_fit_of_served q (hestimate.trans (State.serveEstimate_of_claimed hst hclaim))
  · rw [exec_fit_of_served q (hestimate.trans (State.serveEstimate_of_free hst hfree)),
      FitUnit.submit_of_empty hw]
  · rw [exec_fit_of_served q (hestimate.trans (State.serveEstimate_of_free hst hfree)),
      FitUnit.submit_of_full hw]
  · rw [exec_fitReset]
    refine exec_fit_of_served q ((State.serveFit_reset hc).trans ?_)
    exact if_pos hp
  · rw [hreset hc hp, State.takeReset_of_phase hst, State.endRequests_of_unclaimed hfree]
  · rw [hreset hc hp, State.takeReset_of_lost hst, State.endRequests_of_unclaimed hfree,
      State.installNominal_eq hk]
    rfl
  · obtain ⟨hworking, htimer, hacc⟩ := State.endRequests_working .abandonedReset hw hr
    have hchan := s.endRequests_chan ch ch .abandonedReset
    refine ⟨_, hreset hc hp, ?_⟩
    by_cases hst : (s.chan ch).counter.state = .unreferenced ∨ (s.chan ch).counter.state = .tracking
    · rw [State.takeReset_of_phase hst]
      exact ⟨hworking, htimer, hacc, State.mem_endRequests hw hr, congrArg ChannelUnit.counter hchan,
        fun _ => ⟨hchan, (PerChannel.get_set _ _ _ _).trans (if_pos rfl),
          State.endRequests_result _ (.inl ⟨r, hw, hr⟩)⟩⟩
    · have hlost : (s.chan ch).counter.state = .off ∨ (s.chan ch).counter.state = .dark
          ∨ (s.chan ch).counter.state = .coasting := by
        cases hs : (s.chan ch).counter.state <;> simp [hs] at hst ⊢
      rw [State.takeReset_of_lost hlost]
      refine ⟨hworking, htimer, hacc, State.mem_fitOutcome _ _ _, ?_, fun hphase => absurd hphase hst⟩
      rw [← hchan]
      exact State.installNominal_counter _ ch
  · rw [hreset hc hp, State.takeReset_of_phase hst, State.endRequests_of_waiting hk hw hq hr hothers]
    rfl
  · rw [hreset hc hp, State.takeReset_of_lost hst, State.endRequests_of_waiting hk hw hq hr hothers,
      State.installNominal_of_ended (f := { s.fit with queue := before ++ after }) hk]
    rfl

end Sys2Proof.Machine
end

/-! ### An arrival at a fit that has begun (03 R43, R44, R52) -/

section
namespace Sys2Proof.Machine

/-! #### The sample, observed -/

theorem Accumulator.add_unclipped (acc : Accumulator) (m : ChannelSample) :
    (acc.add m).unclipped = acc.unclipped + (if m.clipped then 0 else 1) := by
  cases hclip : m.clipped <;> simp [Accumulator.add, hclip]

theorem Accumulator.add_extremes_of_clipped {m : ChannelSample} (h : m.clipped = true) (acc : Accumulator) :
    (acc.add m).extremes = acc.extremes := if_pos h

theorem Accumulator.add_extremes_of_first {acc : Accumulator} {m : ChannelSample} (h : m.clipped = false)
    (he : acc.extremes = none) : (acc.add m).extremes = some ⟨m.c, m.c, m.s, m.s, m.s⟩ := by
  simp [Accumulator.add, h, he]

theorem Extremes.add_eq (e : Extremes) (c v : Int) :
    e.add c v =
      { maxC := max e.maxC c, minC := min e.minC c, maxS := max e.maxS v, minS := min e.minS v
        sAtMaxC := if e.maxC < c then v else e.sAtMaxC } := by
  have hmax (x y : Int) : (if x < y then y else x) = max x y := by omega
  have hmin (x y : Int) : (if y < x then y else x) = min x y := by omega
  simp only [Extremes.add, hmax, hmin]

theorem Accumulator.add_extremes_of_next {acc : Accumulator} {m : ChannelSample} {e : Extremes}
    (h : m.clipped = false) (he : acc.extremes = some e) :
    (acc.add m).extremes = some
      { maxC := max e.maxC m.c, minC := min e.minC m.c, maxS := max e.maxS m.s
        minS := min e.minS m.s, sAtMaxC := if e.maxC < m.c then m.s else e.sAtMaxC } := by
  rw [← Extremes.add_eq]
  simp [Accumulator.add, h, he]

/-- 03 R41, R43: at an arrival a begun fit observes the sample, after the trim requests have joined the
queue. -/
theorem State.fitArrive_of_begun {s : State} {q : FitRequest} {τ : FitTimer} (hw : s.fit.working = some q)
    (ht : s.fit.timer = some τ) (order : List Channel) (r : PerChannel ChannelArrival) :
    s.fitArrive order r =
      ((s.withArrival
          { s.arrival with fitBegin := false, resetInstall := s.fit.pendingReset }).withFit
        { s.fit with queue := s.fit.queue ++ s.fit.trimsOf order r }).fitObserve := by
  dsimp only [State.fitArrive]
  have hsubmit (new : List FitRequest) : s.fit.submitAll new = { s.fit with queue := s.fit.queue ++ new } := by
    simp only [FitUnit.submitAll, hw]
  rw [State.trimRequests_eq, State.withArrival_fit, hsubmit, if_pos (by simp [ht])]
  simp only [ht, Option.isSome_some, Bool.not_true, Bool.and_false]

theorem State.arrivedFit_of_begun {s : State} {r : FitRequest} {τ : FitTimer}
    (hw : s.fit.working = some r) (ht : s.fit.timer = some τ) (a : SampleInput) :
    ∃ (w : State) (q : List FitRequest), s.arrivedFit a = w.fitObserve
      ∧ w.fit = { s.fit with queue := q }
      ∧ w.newest = some s.arrivingIndex ∧ w.channels = s.arrivedChannels a
      ∧ w.arrival =
        { Arrival.idle with
          samples := (s.channelArrivals a).map ChannelArrival.sample
          tracker := (s.channelArrivals a).t.unit.counter.trackerValues
          resetInstall := s.fit.pendingReset } := by
  have harrival := s.takeSample_arrival s.arrivingIndex (s.channelArrivals a)
  obtain ⟨_, _, htake, -⟩ := s.takeSample_eq s.arrivingIndex (s.channelArrivals a)
  have hfit : (s.takeSample s.arrivingIndex (s.channelArrivals a)).fit = s.fit := by rw [htake]
  rw [State.arrivedFit, State.fitArrive_of_begun (hfit ▸ hw) (hfit ▸ ht), harrival, hfit]
  refine ⟨_, _, rfl, rfl, ?_, ?_, rfl⟩
  · exact congrArg State.newest htake
  · exact congrArg State.channels htake

/-! #### Events that have been raised stay (10 R173) -/

/-- Every sticky event of the one part is one of the other. -/
def State.KeepsEvents (s t : State) : Prop :=
  ∀ e : Event, e.mem s.status.sticky = true → e.mem t.status.sticky = true

namespace State.KeepsEvents

variable {s t u : State}

theorem of_status (h : t.status = s.status) : s.KeepsEvents t := fun _ he => h ▸ he

theorem trans (h : s.KeepsEvents t) (h' : t.KeepsEvents u) : s.KeepsEvents u := fun e he => h' e (h e he)

theorem raise (h : s.KeepsEvents t) (e : Event) : s.KeepsEvents (t.raise e) := fun e' he => by
  rw [State.mem_raise, h e' he, Bool.true_or]

theorem ageStep (s : State) : s.KeepsEvents s.ageStep := by
  unfold State.ageStep
  dsimp only
  repeat' split
  · exact of_status rfl
  · exact raise (of_status rfl) _
  · exact of_status rfl

theorem closeAborted (s : State) (r : PassReason) : s.KeepsEvents (s.closeAborted r) := by
  unfold State.closeAborted
  split
  · obtain ⟨_, _, e⟩ := s.discardPass_shape r
    exact raise (of_status (e ▸ rfl)) _
  · exact of_status rfl

theorem finishWait (s : State) (o : RerefOutcome) (c : Option RerefCapture) (a : Option RerefApplied) :
    s.KeepsEvents (s.finishWait o c a) := by
  unfold State.finishWait
  split
  · obtain ⟨_, e⟩ := s.endWait_shape o c a
    exact raise (of_status (e ▸ rfl)) _
  · exact of_status rfl

theorem settleTest (s : State) (dx : Int) : s.KeepsEvents (s.settleTest dx) := by
  have hclose (c : Option PassContext) (r : PassReason) :
      s.KeepsEvents ((s.setContext c).closeComplete r) := by
    unfold State.closeComplete
    split
    · exact of_status rfl
    · exact raise (of_status rfl) _
  unfold State.settleTest
  dsimp only
  split
  · exact of_status rfl
  next c _ =>
    generalize (if decide (dx.natAbs < s.pass.stopThr) = true then satInc 65535 c.settleRun else 0) = run
    repeat' split
    exacts [hclose _ _, hclose _ _, of_status rfl, of_status rfl]

theorem runCheck (s : State) : s.KeepsEvents s.runCheck := by
  unfold State.runCheck
  dsimp only
  split
  · obtain ⟨_, _, hfar⟩ := s.advanceFar_shape s.position.x
    have hadvance : s.KeepsEvents (s.advanceFar s.position.x) := of_status (hfar ▸ rfl)
    split
    · exact hadvance
    next prev _ =>
      obtain ⟨_, _, hopen⟩ := ((s.advanceFar s.position.x).settleTest (s.position.x - prev)).autoOpen_shape
        s.position.x prev
      have hauto := of_status (congrArg State.status hopen)
      exact (hadvance.trans (settleTest _ _)).trans hauto
  · exact of_status rfl

theorem rerefCapture (s : State) (c : Capture) : s.KeepsEvents (s.rerefCapture c) := by
  unfold State.rerefCapture
  split
  · exact of_status rfl
  · split
    · exact of_status rfl
    · split
      · exact finishWait s _ _ _
      · unfold State.applyDatum
        dsimp only
        refine trans ?_ (finishWait _ _ _ _)
        exact of_status rfl

theorem completeCapture (s : State) : s.KeepsEvents s.completeCapture := by
  unfold State.completeCapture
  split
  · exact of_status rfl
  · split
    · dsimp only [State.routeCapture]
      split
      · refine trans ?_ (rerefCapture _ _)
        exact of_status rfl
      · obtain ⟨_, _, e⟩ := State.tableCapture_shape (s.withLine { s.line with inFlight := none }) _
        exact of_status (e ▸ rfl)
    · split <;> exact of_status rfl

theorem installPending (s : State) (ch : Channel) : s.KeepsEvents (s.installPending ch) := by
  unfold State.installPending
  dsimp only
  split <;> exact raise (of_status rfl) _

end State.KeepsEvents

/-! #### What the endings of an arrival leave of the working fit -/

/-- What is left alone of a fit in the slot and of its channel's record, with the marks that bear on them; a
FIT_DONE that has been raised stays. -/
structure State.KeepsFit (s t : State) (ch : Channel) : Prop where
  working : t.fit.working = s.fit.working
  timer : t.fit.timer = s.fit.timer
  acc : t.fit.acc = s.fit.acc
  result : t.fit.result.get ch = s.fit.result.get ch
  fitBegin : t.arrival.fitBegin = s.arrival.fitBegin
  fitComplete : t.arrival.fitComplete = s.arrival.fitComplete
  resetInstall : t.arrival.resetInstall.get ch = s.arrival.resetInstall.get ch
  events : s.KeepsEvents t

namespace State.KeepsFit

variable {s t u : State} {ch : Channel}

theorem of_frame (hf : t.fit = s.fit) (ha : (t.arrival.fitBegin, t.arrival.fitComplete, t.arrival.resetInstall)
    = (s.arrival.fitBegin, s.arrival.fitComplete, s.arrival.resetInstall)) (he : s.KeepsEvents t) :
    s.KeepsFit t ch := by
  simp only [Prod.mk.injEq] at ha
  obtain ⟨hb, hc, hr⟩ := ha
  exact ⟨by rw [hf], by rw [hf], by rw [hf], by rw [hf], hb, hc, by rw [hr], he⟩

theorem refl (s : State) : s.KeepsFit s ch := of_frame rfl rfl (.of_status rfl)

theorem trans (h : s.KeepsFit t ch) (h' : t.KeepsFit u ch) : s.KeepsFit u ch where
  working := h'.working.trans h.working
  timer := h'.timer.trans h.timer
  acc := h'.acc.trans h.acc
  result := h'.result.trans h.result
  fitBegin := h'.fitBegin.trans h.fitBegin
  fitComplete := h'.fitComplete.trans h.fitComplete
  resetInstall := h'.resetInstall.trans h.resetInstall
  events := h.events.trans h'.events

theorem takeAgeTick (s : State) : s.KeepsFit s.takeAgeTick ch := by
  unfold State.takeAgeTick
  split
  · obtain ⟨_, _, e⟩ := (s.withArrival { s.arrival with ageTick := false }).ageStep_shape
    refine of_frame (e ▸ rfl) (e ▸ rfl) (.trans ?_ (.ageStep _))
    exact .of_status rfl
  · exact refl s

theorem takeCheck (s : State) : s.KeepsFit s.takeCheck ch := by
  unfold State.takeCheck
  split
  · obtain ⟨_, _, _, e⟩ :=
      (s.takeAgeTick.withArrival { s.takeAgeTick.arrival with check := false }).runCheck_shape
    refine (takeAgeTick s).trans (of_frame (e ▸ rfl) (e ▸ rfl) (.trans ?_ (.runCheck _)))
    exact .of_status rfl
  · exact refl s

theorem takeReport (s : State) : s.KeepsFit s.takeReport ch := by
  unfold State.takeReport
  split
  · exact (takeAgeTick s).trans (of_frame rfl rfl (.of_status rfl))
  · exact refl s

/-- A reset installed on another channel. -/
theorem takeResetInstall {c : Channel} (h : s.arrival.resetInstall.get ch = false) :
    s.KeepsFit (s.takeResetInstall c) ch := by
  unfold State.takeResetInstall
  split
  next hdue =>
    have hne : ch ≠ c := by
      rintro rfl
      rw [h] at hdue
      cases hdue
    have hmark : (s.arrival.resetInstall.set c false).get ch = s.arrival.resetInstall.get ch :=
      (PerChannel.get_set _ _ _ _).trans (if_neg hne)
    refine trans (t := s.withArrival { s.arrival with resetInstall := s.arrival.resetInstall.set c false })
      ⟨rfl, rfl, rfl, rfl, rfl, rfl, hmark, .of_status rfl⟩ ?_
    generalize s.withArrival { s.arrival with resetInstall := s.arrival.resetInstall.set c false } = w
    have hevents := State.KeepsEvents.installPending w c
    unfold State.installPending at hevents ⊢
    dsimp only at hevents ⊢
    split at hevents <;>
      exact ⟨rfl, rfl, rfl, (State.fitOutcome_result _).trans (if_neg hne), rfl, rfl, rfl, hevents⟩
  next => exact refl s

theorem takeResetInstalls (h : s.arrival.resetInstall.get ch = false) : s.KeepsFit s.takeResetInstalls ch := by
  have hxl : s.KeepsFit (s.takeResetInstall .xl) ch := takeResetInstall h
  have hxr := hxl.trans (takeResetInstall (c := .xr) (hxl.resetInstall.trans h))
  have hy := hxr.trans (takeResetInstall (c := .y) (hxr.resetInstall.trans h))
  exact hy.trans (takeResetInstall (c := .t) (hy.resetInstall.trans h))

theorem completeCapture (s : State) : s.KeepsFit s.completeCapture ch := by
  have hevents := State.KeepsEvents.completeCapture s
  obtain ⟨_, _, _, _, _, _, e⟩ := s.completeCapture_shape
  rw [e] at hevents ⊢
  exact of_frame rfl rfl hevents

/-- A capture at an arrival whose fit had begun: no FIT_BEGIN is due, and no reset of the fit's channel. -/
theorem takeCapture (hb : s.arrival.fitBegin = false) (h : s.arrival.resetInstall.get ch = false) :
    s.KeepsFit s.takeCapture ch := by
  have htick := takeAgeTick (ch := ch) s
  have hbegin : s.takeAgeTick.takeFitBegin = s.takeAgeTick := by
    rw [State.takeFitBegin, htick.fitBegin, hb, if_neg Bool.false_ne_true]
  unfold State.takeCapture
  split
  · dsimp only
    split
    · rw [hbegin]
      exact (((htick.trans (takeResetInstalls (htick.resetInstall.trans h))).trans (takeCheck _)).trans
        (takeReport _)).trans (completeCapture _)
    · exact htick.trans (completeCapture _)
  · exact refl s

theorem closeAborted (s : State) (r : PassReason) : s.KeepsFit (s.closeAborted r) ch := by
  have hevents := State.KeepsEvents.closeAborted s r
  obtain ⟨_, _, _, e⟩ := s.closeAborted_shape r
  rw [e] at hevents ⊢
  exact of_frame rfl rfl hevents

theorem finishWait (s : State) (o : RerefOutcome) (c : Option RerefCapture) (a : Option RerefApplied) :
    s.KeepsFit (s.finishWait o c a) ch := by
  have hevents := State.KeepsEvents.finishWait s o c a
  obtain ⟨_, _, e⟩ := s.finishWait_shape o c a
  rw [e] at hevents ⊢
  exact of_frame rfl rfl hevents

theorem endings (before : State) (first : Bool) (hb : s.arrival.fitBegin = false)
    (h : s.arrival.resetInstall.get ch = false) : s.KeepsFit (s.endings before first) ch := by
  have hcapture (b : Bool) : s.KeepsFit (if b then s.takeCapture else s) ch := by
    cases b
    exacts [refl s, takeCapture hb h]
  have habort (b b' : Bool) : s.KeepsFit
      (if b then (if b' then s.takeCapture else s).closeAborted .referenceLost
        else if b' then s.takeCapture else s) ch := by
    cases b
    exacts [hcapture b', (hcapture b').trans (closeAborted _ _)]
  unfold State.endings
  dsimp only
  split
  · exact (habort _ _).trans (finishWait _ _ _ _)
  · exact habort _ _

end State.KeepsFit

/-! #### The arrival -/

/-- Up to its endings an arrival leaves the fit as the fit unit's observation left it. -/
theorem State.keepsEvents_beforeEndings (s : State) (a : SampleInput) :
    (s.arrivedFit a).KeepsEvents (s.beforeEndings a) := by
  obtain ⟨_, _, _, he, -, -, hmem⟩ := (s.arrivedFit a).afterFit_eq s.arrivingIndex s.measuringEpochs
  intro e hraised
  have hstatus : (s.beforeEndings a).status = _ := (congrArg (fun t : State => t.status) he :)
  rw [hstatus, hmem, hraised, Bool.true_or]

/-- 03 R39: the channel of the request in the slot has no pending reset. -/
theorem FitUnit.Sound.pendingReset_of_working {f : FitUnit} (h : f.Sound) {r : FitRequest}
    (hw : f.working = some r) : f.pendingReset.get r.channel = false :=
  (FitUnit.nodup_claims_iff.mp h.claims).2 r (FitUnit.mem_requests.mpr (.inl hw))

/-- What an arrival leaves of a begun fit is what the fit unit's observation made of it, whatever capture comes
first. -/
theorem State.arrive_keepsFit {s : State} {r : FitRequest} {τ : FitTimer} (hsound : s.fit.Sound)
    (hw : s.fit.working = some r) (ht : s.fit.timer = some τ) (a : SampleInput) :
    (s.arrivedFit a).KeepsFit (s.arrive a) r.channel := by
  obtain ⟨b, hfit⟩ := s.arrivedFit_arrival a
  have hmarks := s.beforeEndings_arrival a
  have hbefore : (s.arrivedFit a).KeepsFit (s.beforeEndings a) r.channel :=
    .of_frame (s.beforeEndings_fit a) (by rw [hmarks]) (s.keepsEvents_beforeEndings a)
  rw [State.arrive_eq]
  refine hbefore.trans (.endings _ _ ?_ ?_)
  · rw [hmarks, hfit, ht]
    simp
  · rw [hmarks, hfit]
    exact hsound.pendingReset_of_working hw

/-- 01 R12: an arrival leaves the parameter set of a channel. -/
theorem ChannelUnit.arrive_params (u : ChannelUnit) (p : Pair) :
    (u.arrive p).unit.front.params = u.front.params := by
  by_cases hoff : u.counter.state = .off
  · rw [ChannelUnit.arrive_of_off hoff]
  · rw [ChannelUnit.arrive_of_on hoff]
    rfl

section
variable {s : State} {r : FitRequest} {m : ChannelSample}

/-- 03 R43, R44: what the fit unit holds after a sample it has counted. The fit is complete, and its timer
stopped, exactly when its travel reaches its kind's. -/
theorem State.fitObserve_counted (hw : s.fit.working = some r)
    (hm : s.arrival.samples.get r.channel = some m)
    (hst : (s.chan r.channel).counter.state = .unreferenced ∨ (s.chan r.channel).counter.state = .tracking)
    (hidle : s.arrival.fitComplete = false) :
    s.fitObserve.fit.working = some r
      ∧ s.fitObserve.fit.acc = s.fit.acc.add m
      ∧ (s.fitObserve.arrival.fitComplete = true ↔ r.kind.travel ≤ (s.fit.acc.add m).travel)
      ∧ s.fitObserve.fit.timer =
        if r.kind.travel ≤ (s.fit.acc.add m).travel then none else s.fit.timer := by
  rw [State.fitObserve_of_counting hw hm hst]
  split
  next hreached => exact ⟨hw, rfl, by simp [hreached], rfl⟩
  next hshort => exact ⟨hw, rfl, by simp [hshort, hidle], rfl⟩

/-- 03 R52, R54: what the fit unit holds after a lost signal has ended its fit. -/
theorem State.fitObserve_abandoned {k : Nat} (hw : s.fit.working = some r) (hk : s.newest = some k)
    (hm : s.arrival.samples.get r.channel = some m)
    (hst : (s.chan r.channel).counter.state = .coasting ∨ (s.chan r.channel).counter.state = .dark) :
    s.fitObserve.fit.working = none ∧ s.fitObserve.fit.timer = none
      ∧ s.fitObserve.fit.acc = ⟨0, 0, 0, none⟩
      ∧ s.fitObserve.fit.result.get r.channel =
        some { s.workingRecord r .abandonedSignal with endSample := k }
      ∧ Event.fitDone.mem s.fitObserve.status.sticky = true := by
  rw [State.fitObserve_of_lost hw hm hst, State.endWorking_eq hk]
  refine ⟨rfl, rfl, rfl, (PerChannel.get_set _ _ _ _).trans (if_pos rfl), ?_⟩
  rw [State.mem_raise, decide_eq_true rfl, Bool.or_true]

end

/-- Settles O26: the fit unit observes the sample, and nothing that follows at the arrival touches the fit. -/
theorem arrivalFeedsFit : Obligations.ArrivalFeedsFit := by
  intro a s r τ m h hquiet hsound hw ht hh hm
  have hkeep := State.arrive_keepsFit (State.fitUnitSound_iff.mp hsound) hw ht a
  obtain ⟨w, q, hobserve, hfit, hnewest, hchannels, harrival⟩ := State.arrivedFit_of_begun hw ht a
  have hsample : w.arrival.samples.get r.channel = some m := by
    rw [harrival, PerChannel.get_map, State.channelArrivals_get, ← hh, hm]
  have hchan : w.chan r.channel = h.unit := by
    rw [State.chan, hchannels, State.arrivedChannels_get, ← hh]
  have hworking : w.fit.working = some r := by rw [hfit, hw]
  rw [hobserve] at hkeep
  refine ⟨s.arrive a, ?_, fun hst => ?_, fun hst => ?_⟩
  · rw [exec, execSampleArrival, s.settle_of_quiet hquiet]
  · obtain ⟨hslot, hacc, hcomplete, htimer⟩ :=
      State.fitObserve_counted hworking hsample (hchan ▸ hst) (harrival ▸ rfl)
    have haccArrive : (s.arrive a).fit.acc = s.fit.acc.add m := by rw [hkeep.acc, hacc, hfit]
    rw [haccArrive, hkeep.working, hkeep.timer, hkeep.fitComplete, ← EstimateKind.travel_eq]
    rw [hfit] at hcomplete htimer
    exact ⟨hslot, rfl, Accumulator.add_unclipped _ _, rfl,
      fun hclip => Accumulator.add_extremes_of_clipped hclip _, Accumulator.add_extremes_of_first,
      fun e => Accumulator.add_extremes_of_next, hcomplete, ht ▸ htimer⟩
  · obtain ⟨hslot, htimer, hacc, hresult, hdone⟩ :=
      State.fitObserve_abandoned hworking hnewest hsample (hchan ▸ hst)
    have hparams : w.params r.channel = (s.chan r.channel).front.params := by
      rw [State.params, hchan, hh, ChannelUnit.arrive_params]
    rw [hkeep.working, hkeep.timer, hkeep.acc, hkeep.result]
    refine ⟨hslot, htimer, hacc, hresult.trans ?_, hkeep.events .fitDone hdone⟩
    rw [State.workingRecord, hparams, hfit]
    rfl

end Sys2Proof.Machine
end

/-! ### The compensation unit: age, conversion, correction (04 R60 to R66, 05 R76 to R78, 08 R147) -/

section
namespace Sys2Proof.Machine

/-! #### The age (04 R66) -/

section
variable {s : State}

theorem State.ageStep_of_below (h : s.air.ageMs < s.air.ageLimit * 1000) :
    s.ageStep = s.withAir { s.air with ageMs := s.air.ageMs + 1 } := by
  have htop : ¬s.air.ageTop ≤ s.air.ageMs := by
    unfold AirUnit.ageTop
    omega
  have hnext : s.air.ageMs + 1 ≠ s.air.ageTop := by
    unfold AirUnit.ageTop
    omega
  simp only [State.ageStep, if_neg htop, if_neg hnext]

theorem State.ageStep_of_limit (h : s.air.ageMs = s.air.ageLimit * 1000) :
    s.ageStep = (s.withAir
      { s.air with ageMs := s.air.ageLimit * 1000 + 1, stale := true }).raise .compStale := by
  have htop : ¬s.air.ageTop ≤ s.air.ageMs := by
    unfold AirUnit.ageTop
    omega
  have hnext : s.air.ageMs + 1 = s.air.ageTop := congrArg (· + 1) h
  simp only [State.ageStep, if_neg htop, if_pos hnext]
  rw [h]

theorem State.ageStep_of_top (h : s.air.ageLimit * 1000 + 1 ≤ s.air.ageMs) : s.ageStep = s :=
  if_pos h

theorem exec_ageTick_of_due {t : State} (h : s.arrival.ageTick = true)
    (ht : (s.withArrival { s.arrival with ageTick := false }).ageStep = t) : exec .ageTick s = .next t :=
  congrArg Host.Outcome.next ((if_pos h).trans ht)

theorem exec_ageTick_of_not_due (h : s.arrival.ageTick = false) : exec .ageTick s = .next s :=
  congrArg Host.Outcome.next (if_neg (Bool.eq_false_iff.mp h))

end

/-- Settles O13: below the limit, at the limit, and at the top. -/
theorem ageTickCounts : Obligations.AgeTickCounts := fun _ =>
  ⟨exec_ageTick_of_not_due,
    fun hdue hage => exec_ageTick_of_due hdue (State.ageStep_of_below hage),
    fun hdue hage => exec_ageTick_of_due hdue (State.ageStep_of_limit hage),
    fun hdue hage => exec_ageTick_of_due hdue (State.ageStep_of_top hage)⟩

/-! #### The effective length of a phase unit (04 R62, R63) -/

theorem le_roundDiv_iff {n d : Int} (hn : 0 ≤ n) (hd : 0 < d) (m : Int) :
    m ≤ roundDiv n d ↔ m * (2 * d) ≤ 2 * n + d := by
  rw [roundDiv, if_pos hn, Int.le_ediv_iff_mul_le (by omega)]

section
variable {wVac : Nat} {r : Int}

theorem le_effectiveScale_iff (hr : 0 ≤ r) (m : Int) :
    m ≤ effectiveScale wVac r ↔ m * (2 * (1000000000 + r)) ≤ 2 * (wVac * 1000000000) + (1000000000 + r) :=
  le_roundDiv_iff (by omega) (by omega) m

theorem effectiveScale_ge (hw : 1000000000 ≤ wVac) (hr : 0 ≤ r) (hr' : r ≤ 1000000) :
    999000999 ≤ effectiveScale wVac r := by
  rw [le_effectiveScale_iff hr]
  omega

/-- No refractivity lengthens the phase unit of the vacuum. -/
theorem effectiveScale_le (hr : 0 ≤ r) : effectiveScale wVac r ≤ wVac := by
  by_contra hlt
  have habove := (le_effectiveScale_iff (wVac := wVac) hr (wVac + 1)).mp (by omega)
  have hprod : 0 ≤ (wVac : Int) * r := mul_nonneg (Int.natCast_nonneg _) hr
  linarith

theorem effectiveScale_zero (wVac : Nat) : effectiveScale wVac 0 = wVac := by
  rw [effectiveScale, roundDiv, if_pos (by omega)]
  omega

end

/-! #### The terms of a length and the correction of a re-base (04 R64, 08 R147) -/

/-- 04 R65: at an unchanged R0 the dead path adds nothing. -/
theorem deadPathTerm_self (d : Nat) (r : Int) : deadPathTerm d r r = 0 := by
  rw [deadPathTerm, sub_self, mul_zero]
  rfl

/-- 08 R147: half a phase unit for the rounding of the correction, and half a picometre for each of the two
path terms; all in units of 2⁻²⁵ pm. -/
theorem pathTerm_correctionOf_near {w : Int} (hw : 0 < w) (p target : Int) :
    33554432 * ((pathTerm (p + correctionOf target (pathTerm p w) w) w - target).natAbs : Int)
      ≤ w + 33554432 := by
  have hbefore := (roundDiv_nearest (p * w) (show 0 < Config.wScale by decide)).1
  rw [← pathTerm] at hbefore
  generalize pathTerm p w = before at *
  have hstep := (roundDiv_nearest ((target - before) * Config.wScale) hw).1
  rw [← correctionOf] at hstep
  generalize correctionOf target before w = dp at *
  have hafter := (roundDiv_nearest ((p + dp) * w) (show 0 < Config.wScale by decide)).1
  rw [← pathTerm, add_mul] at hafter
  unfold Config.wScale at *
  omega

/-! #### The tracker term (04 R60, R62, R67) -/

section
variable {s : State} {dT dR : Int}

theorem State.trackerTerm_eq_some_iff :
    s.trackerTerm = some (dT, dR) ↔ ∃ n, s.air.snapshot = some n
      ∧ (s.chan .t).counter.epoch = n.epoch ∧ (s.chan .t).counter.state ≠ .off
      ∧ (s.chan .t).counter.state ≠ .dark ∧ s.air.tPath ≠ 0
      ∧ dT = (s.chan .t).counter.p - n.tSnap ∧ dR = roundDiv (dT * 1000000000) s.air.tPath := by
  unfold State.trackerTerm
  cases s.air.snapshot with
  | none => simp
  | some n =>
    simp only [Option.some.injEq, exists_eq_left', trackerCounting_iff]
    split_ifs with husable
    · obtain ⟨hepoch, ⟨hoff, hdark⟩, hpath⟩ := husable
      simp only [Option.some.injEq, Prod.mk.injEq, hepoch, ne_eq, hoff, hdark, hpath, not_false_eq_true,
        true_and]
      constructor <;> (rintro ⟨rfl, rfl⟩; exact ⟨rfl, rfl⟩)
    · simp only [false_iff]
      exact fun ⟨hepoch, hoff, hdark, hpath, _⟩ => husable ⟨hepoch, ⟨hoff, hdark⟩, hpath⟩

theorem State.rEff_of_term (h : s.trackerTerm = some (dT, dR)) :
    s.rEff = max 0 (min 1000000 (s.air.rHost + dR)) := by
  simp only [State.rEff, State.deltaR, h, clamp]

theorem State.rEff_of_no_term (h : s.trackerTerm = none) :
    s.rEff = max 0 (min 1000000 s.air.rHost) := by
  simp only [State.rEff, State.deltaR, h, clamp, add_zero]

end

section
variable (s : State)

/-! #### The marks of a conversion (04 R58, R66, R67) -/

theorem State.conversionMarks_stale :
    s.conversionMarks.stale = true ↔ s.air.ageLimit * 1000 < s.air.ageMs :=
  decide_eq_true_iff

theorem State.conversionMarks_drift :
    s.conversionMarks.drift = true
      ↔ ∃ dT dR, s.trackerTerm = some (dT, dR) ∧ s.air.driftLimit < dR.natAbs := by
  change s.driftNow = true ↔ _
  unfold State.driftNow
  cases s.trackerTerm with
  | none => simp
  | some term =>
    obtain ⟨dT, dR⟩ := term
    simp

theorem State.conversionMarks_noTracker :
    s.conversionMarks.noTracker = true ↔ s.trackerTerm = none :=
  Option.isNone_iff_eq_none

theorem State.xReferenced_iff :
    s.xReferenced = true ↔ s.referenced .xl = true ∧ s.referenced .xr = true :=
  Bool.and_eq_true_iff

end

/-- Settles O24: the range of the quotient, the correction from its three roundings, and the values and marks
of a conversion. -/
theorem conversionRangeAndCorrection : Obligations.ConversionRangeAndCorrection := by
  refine ⟨fun s hlow _ => ?_, deadPathTerm_self,
    fun p target w hw _ => pathTerm_correctionOf_near (by omega) p target, fun s c hc => ?_⟩
  · obtain ⟨hr, hr'⟩ := s.rEff_mem
    refine ⟨hr, hr', effectiveScale_ge hlow hr hr', effectiveScale_le hr, fun hzero => ?_⟩
    rw [State.wEff, hzero, effectiveScale_zero]
  · subst hc
    refine ⟨fun dT dR => State.trackerTerm_eq_some_iff, fun dT dR => State.rEff_of_term,
      State.rEff_of_no_term, rfl, fun len hlen => ?_⟩
    have hnow (ch : Channel) : s.lengthNow ch (s.chan ch).counter.p = len ch (s.air.deadPath ch) :=
      (hlen ch _).symm
    exact ⟨congrArg₂ (formX s.axis.f) (hnow .xl) (hnow .xr),
      congrArg₂ (formYaw s.axis.b) (hnow .xl) (hnow .xr), hnow .y, s.xReferenced_iff, Iff.rfl,
      s.conversionMarks_stale, s.conversionMarks_drift, s.conversionMarks_noTracker⟩

end Sys2Proof.Machine
end

/-! ### The fields of a capture (05 R85 to R88, 04 R58, R59, R64) -/

section
namespace Sys2Proof.Machine

theorem RefMark.isReferenced_iff (m : RefMark) : m.isReferenced = true ↔ m ≠ .unref := by
  cases m <;> decide

theorem RefMark.isReferenced_eq_false_iff (m : RefMark) : m.isReferenced = false ↔ m = .unref := by
  cases m <;> decide

theorem RefMark.isCoast_iff (m : RefMark) : m.isCoast = true ↔ m = .coast := by
  cases m <;> decide

theorem motionOf_eq_fwd_iff (n : Int) : motionOf n = .fwd ↔ 0 < n := by
  unfold motionOf
  split_ifs <;> simp_all

theorem motionOf_eq_rev_iff (n : Int) : motionOf n = .rev ↔ n < 0 := by
  unfold motionOf
  split_ifs with hpos hneg
  · simp [hpos.le]
  · simp [hneg]
  · simp [hneg]

/-- 05 R85: an interpolated count lies within half a unit of the exact one, a half away from zero. -/
theorem interpolate_nearest (p0 p1 : Int) (tOff : Nat) :
    2 * (100 * (interpolate p0 p1 tOff - p0) - (p1 - p0) * tOff).natAbs ≤ 100
      ∧ (2 * (100 * (interpolate p0 p1 tOff - p0) - (p1 - p0) * tOff).natAbs = 100 →
        ((p1 - p0) * tOff).natAbs < (100 * (interpolate p0 p1 tOff - p0)).natAbs) := by
  have hnear := roundDiv_nearest ((p1 - p0) * tOff) (show (0 : Int) < 100 by decide)
  rw [interpolate, add_sub_cancel_left]
  omega

section
variable (s : State) (tOff : Nat) (e0 e1 : WindowEntry)

/-- 05 R88: NO_Y marks a capture whose Y has an unreferenced mark. -/
theorem State.formCapture_noY :
    (s.formCapture tOff e0 e1).marks.noY = true ↔ e0.markY = .unref ∨ e1.markY = .unref := by
  simp only [State.formCapture, Bool.not_eq_true', Bool.and_eq_false_iff, RefMark.isReferenced_eq_false_iff]

theorem State.formCapture_ref :
    (s.formCapture tOff e0 e1).ref = true ↔ e0.markXL ≠ .unref ∧ e1.markXL ≠ .unref
      ∧ e0.markXR ≠ .unref ∧ e1.markXR ≠ .unref := by
  simp only [State.formCapture, Bool.and_eq_true, RefMark.isReferenced_iff, and_assoc]

theorem State.formCapture_coasted :
    (s.formCapture tOff e0 e1).marks.coasted = true ↔ e0.markXL = .coast ∨ e1.markXL = .coast
      ∨ e0.markXR = .coast ∨ e1.markXR = .coast := by
  simp only [State.formCapture, Bool.or_eq_true, RefMark.isCoast_iff, or_assoc]

/-- 05 R85, R88: Y's count and length stand exactly where NO_Y does not. -/
theorem State.formCapture_pY :
    (s.formCapture tOff e0 e1).pY = if (s.formCapture tOff e0 e1).marks.noY then none
      else some (interpolate e0.pY e1.pY tOff) := by
  cases hY : e0.markY.isReferenced && e1.markY.isReferenced <;> simp [State.formCapture, hY]

theorem State.formCapture_y :
    (s.formCapture tOff e0 e1).y
      = (s.formCapture tOff e0 e1).pY.map (s.atSample.lengthNow .y) := by
  simp only [State.formCapture]
  split <;> rfl

end

theorem Marks.flagged_iff (m : Marks) :
    m.flagged = true ↔ m.coasted = true ∨ m.stale = true ∨ m.drift = true ∨ m.noTracker = true := by
  simp only [Marks.flagged, Bool.or_eq_true, or_assoc]

/-- Settles O21: the state with T's values of the newest sample is the one the conversion reads. -/
theorem captureFieldsFromBracket : Obligations.CaptureFieldsFromBracket := by
  intro s v tOff e0 e1 c hc hv
  obtain rfl : v = s.atSample := hv
  subst hc
  have hpY := s.formCapture_pY tOff e0 e1
  have hy := s.formCapture_y tOff e0 e1
  have hpYnone : (s.formCapture tOff e0 e1).pY = none
      ↔ (s.formCapture tOff e0 e1).marks.noY = true := by
    rw [hpY]
    split_ifs with h <;> simp [h]
  obtain ⟨hnearL, htieL⟩ := interpolate_nearest e0.pXL e1.pXL tOff
  obtain ⟨hnearR, htieR⟩ := interpolate_nearest e0.pXR e1.pXR tOff
  refine ⟨rfl, rfl, rfl, rfl, hnearL, hnearR, htieL, htieR, rfl, rfl, rfl, rfl, rfl, rfl,
    motionOf_eq_fwd_iff _, motionOf_eq_rev_iff _, s.formCapture_ref .., s.formCapture_coasted ..,
    s.atSample.conversionMarks_stale, s.atSample.conversionMarks_drift,
    s.atSample.conversionMarks_noTracker, s.formCapture_noY .., ?_, hpYnone, fun p hp => ⟨?_, ?_⟩,
    Marks.flagged_iff _⟩
  · rw [hy, Option.map_eq_none_iff, hpYnone]
  · rw [hpY] at hp
    split_ifs at hp
    exact (Option.some.inj hp).symm
  · rw [hy, hp]
    rfl

end Sys2Proof.Machine
end

/-! ### The setting requests (03 R46, 04 R68 to R71, 05 R75, R81, 07 R125, 10 R168) -/

section
namespace Sys2Proof.Machine

/-! #### The answers -/

section
variable {s t : State} {h : Header} {i : Instr} {st : Status} {data : Bytes}

/-- 09 R160: a request that is refused is answered with its status; nothing else changes. -/
theorem exec_of_refused (q : s.Ready h) (r : Request) (hi : i.request = some (h, r))
    (hv : s.serve r = s.refuse st) (htaken : st.taken = false) :
    exec i s = .next (s.answered h r.code st []) := by
  rw [exec_of_request hi, State.request_answered q hv q.2.1]
  exact congrArg (fun d => Host.Outcome.next (s.answered h r.code st d))
    (if_neg (Bool.eq_false_iff.mp htaken))

/-- 09 R159: a request that is taken, and leaves the link alone, is answered with its data. -/
theorem exec_of_taken (q : s.Ready h) (r : Request) (hi : i.request = some (h, r))
    (hv : s.serve r = { state := t, status := st, data := data }) (hlink : t.link = s.link)
    (htaken : st.taken = true) : exec i s = .next (t.answered h r.code st data) := by
  rw [exec_of_request hi, State.request_answered q hv ((congrArg LinkUnit.station hlink).trans q.2.1)]
  exact congrArg (fun d => Host.Outcome.next (t.answered h r.code st d)) (if_pos htaken)

end

section
variable {p : Prop} [Decidable p]

theorem okOrAdjusted_of_iff {q : Prop} [Decidable q] (h : q ↔ ¬p) :
    okOrAdjusted (decide q) = if p then .ok else .adjusted := by
  by_cases hp : p <;> simp [okOrAdjusted, h, hp]

theorem taken_ok_or_adjusted : (if p then Status.ok else Status.adjusted).taken = true := by
  split <;> rfl

end

/-! #### The fields that name a choice (11 section 11.2) -/

section
variable {n : Nat}

theorem boolOfCode_eq_none_iff : boolOfCode n = none ↔ 1 < n := by
  match n with
  | 0 | 1 => decide
  | n + 2 => simp [boolOfCode]

theorem edgeOfCode_eq_none_iff : edgeOfCode n = none ↔ 1 < n := by
  match n with
  | 0 | 1 => decide
  | n + 2 => simp [edgeOfCode]

theorem modeOfCode_eq_none_iff : modeOfCode n = none ↔ 1 < n := by
  match n with
  | 0 | 1 => decide
  | n + 2 => simp [modeOfCode]

/-- A flag in range is read, and sent back as it came. -/
theorem boolOfCode_of_le (hn : n ≤ 1) :
    boolOfCode n = some (decide (n = 1)) ∧ boolCode (decide (n = 1)) = n := by
  rcases Nat.le_one_iff_eq_zero_or_eq_one.mp hn with rfl | rfl <;> decide

theorem edgeOfCode_of_le (hn : n ≤ 1) :
    edgeOfCode n = some (if n = 0 then .rising else .falling)
      ∧ edgeCode (if n = 0 then .rising else .falling) = n := by
  rcases Nat.le_one_iff_eq_zero_or_eq_one.mp hn with rfl | rfl <;> decide

theorem modeOfCode_of_le (hn : n ≤ 1) :
    modeOfCode n = some (if n = 0 then .auto else .host)
      ∧ PassMode.code (if n = 0 then .auto else .host) = n := by
  rcases Nat.le_one_iff_eq_zero_or_eq_one.mp hn with rfl | rfl <;> decide

end

section
variable (s : State)

/-! #### What each owner does -/

theorem State.serveFitSet_eq (ms : Nat) :
    s.serveFitSet ms =
      { state := s.withFit { s.fit with timeoutMs := clampNat 100 60000 ms }
        status := if clampNat 100 60000 ms = ms then .ok else .adjusted
        data := sentU 4 (clampNat 100 60000 ms) } := by
  rw [← okOrAdjusted_of_iff Iff.rfl]
  rfl

theorem State.serveAirSet_of_out {r : Int} (hr : r < 0 ∨ 600000 < r) (age drift : Nat) :
    s.serveAirSet r age drift = s.refuse .range := by
  refine if_pos ?_
  simp only [Bool.not_eq_true', Bool.and_eq_false_iff, decide_eq_false_iff_not]
  omega

theorem State.serveAirSet_of_in {r : Int} (hlow : 0 ≤ r) (hhigh : r ≤ 600000) (age drift : Nat) :
    s.serveAirSet r age drift =
      { state := s.withAir
          { s.air with
            rHost := r, ageMs := 0, ageSamples := 0
            ageLimit := clampNat 1 3600 age, driftLimit := clampNat 1 10000 drift
            snapshot := if (s.chan .t).counter.state = .off ∨ (s.chan .t).counter.state = .dark then none
              else some ⟨(s.chan .t).counter.p, (s.chan .t).counter.epoch⟩
            stale := false, drift := false }
        status := if clampNat 1 3600 age = age ∧ clampNat 1 10000 drift = drift then .ok else .adjusted
        data := sentS 4 r ++ sentU 2 (clampNat 1 3600 age) ++ sentU 2 (clampNat 1 10000 drift) } := by
  have hcounting : trackerCounting (s.chan .t).counter.state = true
      ↔ ¬((s.chan .t).counter.state = .off ∨ (s.chan .t).counter.state = .dark) := by
    rw [trackerCounting_iff, not_or]
  rw [← okOrAdjusted_of_iff not_and_or.symm, ← ite_not]
  simp only [State.serveAirSet, hlow, hhigh, hcounting, decide_true, Bool.and_self, Bool.not_true,
    Bool.false_eq_true, if_false]

theorem State.serveTrackerSet_of_out {path : Nat}
    (h : (1 ≤ path ∧ path ≤ 999999) ∨ 2000000001 ≤ path) :
    s.serveTrackerSet path = s.refuse .range :=
  if_neg (by omega)

theorem State.serveTrackerSet_of_in {path : Nat} (h : path = 0 ∨ (1000000 ≤ path ∧ path ≤ 2000000000)) :
    s.serveTrackerSet path = { state := s.withAir { s.air with tPath := path }, status := .ok } :=
  if_pos h

theorem geometryInRange_iff (g : GeometryFields) :
    geometryInRange g = true ↔ 1000000000 ≤ g.wVac ∧ g.dXL ≤ 2000000 ∧ g.dXR ≤ 2000000
      ∧ g.dY ≤ 2000000 ∧ g.f ≤ 65536 ∧ 10000 ≤ g.b ∧ g.b ≤ 1000000 := by
  simp only [geometryInRange, Bool.and_eq_true, decide_eq_true_iff, and_assoc]

/-- 04 R70: the ranges are tested before the pass. -/
theorem State.serveGeometrySet_eq (g : GeometryFields) :
    s.serveGeometrySet g =
      if geometryInRange g = true then
        if s.pass.context ≠ none then s.refuse .inPass
        else
          { state := (s.withAir
              { s.air with wVac := g.wVac, dXL := g.dXL, dXR := g.dXR, dY := g.dY }).withAxis
              { s.axis with f := g.f, b := g.b }
            status := .ok }
      else s.refuse .range := by
  unfold State.serveGeometrySet
  cases geometryInRange g
  · rfl
  · simp only [State.passOpen, Option.isSome_iff_ne_none]
    rfl

theorem State.serveLineSet_of_out {f : LineFields} (hf : 1 < f.enable ∨ 1 < f.polarity) :
    s.serveLineSet f = s.refuse .range := by
  unfold State.serveLineSet
  split
  next hon hpol =>
    rw [← boolOfCode_eq_none_iff, ← edgeOfCode_eq_none_iff, hon, hpol] at hf
    exact absurd hf (by simp)
  next => rfl

theorem State.serveLineSet_of_in {f : LineFields} (hon : f.enable ≤ 1) (hpol : f.polarity ≤ 1) :
    s.serveLineSet f =
      { state := s.withLine
          { enable := decide (f.enable = 1)
            polarity := if f.polarity = 0 then .rising else .falling
            latency := clampNat 0 6300 f.latency, spacing := clampNat 200 100000 f.spacing
            lastEdge := if f.enable = 1 ∧ s.line.enable = false then none else s.line.lastEdge
            inFlight := if f.enable = 0 ∧ s.line.enable = true then none else s.line.inFlight }
        status := if clampNat 0 6300 f.latency = f.latency ∧ clampNat 200 100000 f.spacing = f.spacing
          then .ok else .adjusted
        data := sentB f.enable ++ sentB f.polarity ++ sentU 4 (clampNat 0 6300 f.latency)
          ++ sentU 4 (clampNat 200 100000 f.spacing) } := by
  obtain ⟨hread, hsent⟩ := boolOfCode_of_le hon
  obtain ⟨hreadPol, hsentPol⟩ := edgeOfCode_of_le hpol
  have hzero : f.enable ≠ 1 ↔ f.enable = 0 := by omega
  rw [← okOrAdjusted_of_iff not_and_or.symm]
  simp only [State.serveLineSet, hread, hreadPol, sentFlag, hsent, hsentPol, Bool.and_eq_true,
    Bool.not_eq_true', decide_eq_true_iff, decide_eq_false_iff_not, hzero]

theorem State.servePassSet_of_out {f : PassFields} (hf : 1 < f.mode) :
    s.servePassSet f = s.refuse .range := by
  rw [State.servePassSet, modeOfCode_eq_none_iff.mpr hf]

theorem State.servePassSet_of_in {f : PassFields} {start : Nat}
    (hstart : start = clampNat 100 1000000 f.startThr) (hf : f.mode ≤ 1) :
    s.servePassSet f =
      { state := s.withPass
          { s.pass with
            mode := if f.mode = 0 then .auto else .host
            startThr := start, stopThr := clampNat 10 start f.stopThr
            settle := clampNat 1 65535 f.settle }
        status := if start = f.startThr ∧ clampNat 10 start f.stopThr = f.stopThr
            ∧ clampNat 1 65535 f.settle = f.settle then .ok else .adjusted
        data := sentB f.mode ++ sentU 4 start ++ sentU 4 (clampNat 10 start f.stopThr)
          ++ sentU 2 (clampNat 1 65535 f.settle) } := by
  obtain ⟨hread, hsent⟩ := modeOfCode_of_le hf
  rw [← okOrAdjusted_of_iff (by rw [not_and_or, not_and_or])]
  simp only [State.servePassSet, hread, hsent, hstart]

theorem State.serveDriveSet_of_out {enable : Nat} (he : 1 < enable) (period : Nat) :
    s.serveDriveSet enable period = s.refuse .range := by
  rw [State.serveDriveSet, boolOfCode_eq_none_iff.mpr he]

/-- 10 R168: switching the port ON starts it afresh. -/
theorem State.serveDriveSet_of_in {enable : Nat} (he : enable ≤ 1) (period : Nat) :
    s.serveDriveSet enable period =
      { state := s.withDrive
          { (if enable = 1 ∧ s.drive.enable = false then
              { s.drive with timer := 0, seq := 0, lastXYaw := none, lastY := none } else s.drive) with
            enable := decide (enable = 1), period := clampNat 50 100000 period }
        status := if clampNat 50 100000 period = period then .ok else .adjusted
        data := sentB enable ++ sentU 4 (clampNat 50 100000 period) } := by
  obtain ⟨hread, hsent⟩ := boolOfCode_of_le he
  rw [← okOrAdjusted_of_iff Iff.rfl]
  simp only [State.serveDriveSet, hread, sentFlag, hsent, Bool.and_eq_true, Bool.not_eq_true',
    decide_eq_true_iff]

end

/-- Settles O53: for each request what its owner does out of range and in range, and the answer. -/
theorem settingsServed : Obligations.SettingsServed := by
  intro s h q
  refine ⟨?fitSet, ?airSet, ?trackerSet, ?geometrySet, ?lineSet, ?passSet, ?driveSet⟩
  case fitSet =>
    rintro ms t rfl
    exact exec_of_taken q (.fitSet ms) rfl (s.serveFitSet_eq ms) rfl taken_ok_or_adjusted
  case airSet =>
    rintro r age drift a d rfl rfl
    refine ⟨fun hr => exec_of_refused q (.airSet r age drift) rfl
      (s.serveAirSet_of_out hr age drift) rfl, ?_⟩
    rintro hlow hhigh snap rfl
    exact exec_of_taken q (.airSet r age drift) rfl (s.serveAirSet_of_in hlow hhigh age drift) rfl
      taken_ok_or_adjusted
  case trackerSet =>
    intro path
    exact ⟨fun hout => exec_of_refused q (.trackerSet path) rfl (s.serveTrackerSet_of_out hout) rfl,
      fun hin => exec_of_taken q (.trackerSet path) rfl (s.serveTrackerSet_of_in hin) rfl rfl⟩
  case geometrySet =>
    intro g ranges hranges
    rw [hranges, ← geometryInRange_iff]
    have hserve := s.serveGeometrySet_eq g
    exact ⟨fun hout => exec_of_refused q (.geometrySet g) rfl (hserve.trans (if_neg hout)) rfl,
      fun hin hopen => exec_of_refused q (.geometrySet g) rfl
        (hserve.trans ((if_pos hin).trans (if_pos hopen))) rfl,
      fun hin hclosed => exec_of_taken q (.geometrySet g) rfl
        (hserve.trans ((if_pos hin).trans (if_neg (not_not.mpr hclosed)))) rfl rfl⟩
  case lineSet =>
    rintro f lat sp hlat rfl
    obtain rfl : lat = clampNat 0 6300 f.latency := hlat.trans (Nat.zero_max _).symm
    exact ⟨fun hout => exec_of_refused q (.lineSet f) rfl (s.serveLineSet_of_out hout) rfl,
      fun hon hpol => exec_of_taken q (.lineSet f) rfl (s.serveLineSet_of_in hon hpol) rfl
        taken_ok_or_adjusted⟩
  case passSet =>
    rintro f start stop settle hstart rfl rfl
    exact ⟨fun hout => exec_of_refused q (.passSet f) rfl (s.servePassSet_of_out hout) rfl,
      fun hin => exec_of_taken q (.passSet f) rfl (s.servePassSet_of_in hstart hin) rfl
        taken_ok_or_adjusted⟩
  case driveSet =>
    rintro enable period n rfl
    refine ⟨fun hout => exec_of_refused q (.driveSet enable period) rfl
      (s.serveDriveSet_of_out hout period) rfl, ?_, ?_⟩
    · rintro rfl hoff
      have hserve := s.serveDriveSet_of_in le_rfl period
      rw [if_pos ⟨rfl, hoff⟩] at hserve
      exact exec_of_taken q (.driveSet 1 period) rfl hserve rfl taken_ok_or_adjusted
    · intro hkeep
      have hserve := s.serveDriveSet_of_in (show enable ≤ 1 by omega) period
      rw [if_neg (by rintro ⟨rfl, hoff⟩; simp [hoff] at hkeep)] at hserve
      exact exec_of_taken q (.driveSet enable period) rfl hserve rfl taken_ok_or_adjusted

end Sys2Proof.Machine
end

/-! ### A pulse of the microscope (05 R82 to R84, 07 R135) -/

section
namespace Sys2Proof.Machine

/-- 05 R83: what crowds a pulse is a capture in flight, or an edge accepted within the spacing. -/
theorem LineInput.crowds_iff {l : LineInput} {e : Nat} :
    l.crowds e = true ↔ l.inFlight ≠ none ∨ ∃ last, l.lastEdge = some last ∧ e < last + l.spacing := by
  unfold LineInput.crowds
  cases l.lastEdge <;> simp [Option.isSome_iff_ne_none]

/-- 05 R84: the instant less the latency is k periods and t_off nanoseconds. -/
theorem LineInput.bracket_of_instant {l : LineInput} {e k tOff : Nat} (hlat : l.latency ≤ e)
    (hinstant : e - l.latency = 100 * k + tOff) (hoff : tOff ≤ 99) : l.bracket e = some ⟨k, tOff⟩ := by
  have hk : (e - l.latency) / 100 = k := by omega
  have ht : (e - l.latency) % 100 = tOff := by omega
  rw [LineInput.bracket, if_neg (Nat.not_lt_of_le hlat), hk, ht]

theorem AxisUnit.entry_eq_none_iff {a : AxisUnit} {k : Nat} :
    a.entry k = none ↔ ∀ w ∈ a.window, w.index ≠ k := by
  simp [AxisUnit.entry]

section
variable {s : State} {edge : Edge} {e k : Nat}

theorem State.hasArrived_iff : s.hasArrived k = true ↔ ∃ n, s.newest = some n ∧ k ≤ n := by
  unfold State.hasArrived
  cases s.newest <;> simp

/-- 05 R84, third point: a bracket is lost when its first sample has arrived and left no entry. -/
theorem State.bracketLost_iff :
    s.bracketLost k = true ↔ (∃ n, s.newest = some n ∧ k ≤ n) ∧ s.axis.entry k = none := by
  rw [State.bracketLost, Bool.and_eq_true, State.hasArrived_iff, Option.isNone_iff_eq_none]

/-- 05 R84: a bracket stands while its first sample is still to come, or its entry is in the window. -/
theorem State.bracketLost_eq_false (h : (∀ n, s.newest = some n → n < k) ∨ s.axis.entry k ≠ none) :
    s.bracketLost k = false := by
  rw [Bool.eq_false_iff, ne_eq, State.bracketLost_iff]
  rintro ⟨⟨n, hn, hle⟩, hentry⟩
  exact h.elim (fun hcome => absurd (hcome n hn) (Nat.not_lt_of_le hle)) (fun hin => hin hentry)

/-- 05 R82: an input that is off, and an edge of the other polarity, take no notice. -/
theorem exec_pulseArrival_of_ignored (q : s.Quiet)
    (h : s.line.enable = false ∨ edge ≠ s.line.polarity) : exec (.pulseArrival edge e) s = .next s := by
  have hoff : ¬(s.line.enable && edge == s.line.polarity) = true := by
    rcases h with h | h <;> simp [h]
  rw [exec, execPulseArrival, s.settle_of_quiet q, State.pulse, if_neg hoff]

theorem exec_pulseArrival_of_heard (q : s.Quiet) (hon : s.line.enable = true)
    (hedge : edge = s.line.polarity) :
    exec (.pulseArrival edge e) s
      = .next (if s.line.crowds e then s.countCrowded else s.acceptPulse e) := by
  have hheard : (s.line.enable && edge == s.line.polarity) = true := by simp [hon, hedge]
  rw [exec, execPulseArrival, s.settle_of_quiet q, State.pulse, if_pos hheard]

theorem State.acceptPulse_of_early (h : e < s.line.latency) :
    s.acceptPulse e = s.withLine { s.line with lastEdge := some e, inFlight := none } := by
  rw [State.acceptPulse, LineInput.bracket, if_pos h]

theorem State.acceptPulse_of_bracket {b : InFlight} (h : s.line.bracket e = some b) :
    s.acceptPulse e = s.withLine
      { s.line with lastEdge := some e, inFlight := if s.bracketLost b.k then none else some b } := by
  rw [State.acceptPulse, h]

end

/-- Settles O20: the edge is not heard, or is crowded, or is accepted; an accepted one by its bracket. -/
theorem pulseTakenOrCrowded : Obligations.PulseTakenOrCrowded := by
  intro s edge e q
  refine ⟨exec_pulseArrival_of_ignored q, fun hon hedge hcrowd => ?crowded,
    fun hon hedge hflight hspaced => ?accepted⟩
  case crowded =>
    rw [exec_pulseArrival_of_heard q hon hedge, if_pos (LineInput.crowds_iff.mpr hcrowd)]
    rfl
  case accepted =>
    have hclear : ¬s.line.crowds e = true := by
      rw [LineInput.crowds_iff]
      rintro (hbusy | ⟨last, hlast, hnear⟩)
      · exact hbusy hflight
      · exact absurd (hspaced last hlast) (Nat.not_le_of_lt hnear)
    rw [exec_pulseArrival_of_heard q hon hedge, if_neg hclear]
    refine ⟨fun hearly => congrArg _ (State.acceptPulse_of_early hearly), ?_⟩
    intro hlat k tOff hinstant hoff
    rw [State.acceptPulse_of_bracket (LineInput.bracket_of_instant hlat hinstant hoff)]
    refine ⟨fun harrived hgone => ?_, fun hstands => ?_⟩
    · rw [if_pos (State.bracketLost_iff.mpr ⟨harrived, AxisUnit.entry_eq_none_iff.mpr hgone⟩)]
    · have hkept : s.bracketLost k = false := by
        refine State.bracketLost_eq_false (hstands.imp_right ?_)
        rintro ⟨w, hw, hwk⟩ hnone
        exact AxisUnit.entry_eq_none_iff.mp hnone w hw hwk
      rw [hkept, if_neg Bool.false_ne_true]

end Sys2Proof.Machine
end

/-! ### A capture that reaches the line table (05 R84, R89, 07 R130, R132 to R135) -/

section
namespace Sys2Proof.Machine

/-! #### When a capture is formed (05 R84, R89) -/

section
variable {s : State} {b : InFlight} {e0 e1 : WindowEntry}

theorem State.bracketEntries_eq_none (h : s.axis.entry b.k = none ∨ s.axis.entry (nextIndex b.k) = none) :
    s.bracketEntries b = none := by
  rw [State.bracketEntries]
  rcases h with h | h <;> simp [h]

theorem State.takeCapture_of_not_due (h : s.captureDue = false) : s.takeCapture = s := by
  rw [State.takeCapture, h, if_neg Bool.false_ne_true]

/-- 05 R84: with an entry still to come and the bracket not lost, the capture stays in flight. -/
theorem State.captureDue_of_incomplete (hb : s.line.inFlight = some b) (hentries : s.bracketEntries b = none)
    (hkept : s.bracketLost b.k = false) : s.captureDue = false := by
  simp [State.captureDue, hb, hentries, hkept]

/-- While no wait stands and the age does not move, a due capture is completed at once. -/
theorem State.takeCapture_of_due (hdue : s.captureDue = true) (hage : s.arrival.ageTick = false)
    (hwait : s.reref.wait = none) : s.takeCapture = s.completeCapture := by
  have hidle : s.waiting = false := by rw [State.waiting, hwait]; rfl
  simp only [State.takeCapture, hdue, if_true, State.takeAgeTick, hage, hidle, Bool.false_eq_true, if_false]

/-- 05 R84, third point: a lost bracket drops its capture. -/
theorem State.takeCapture_of_lost (hage : s.arrival.ageTick = false) (hwait : s.reref.wait = none)
    (hb : s.line.inFlight = some b) (hentries : s.bracketEntries b = none)
    (hlost : s.bracketLost b.k = true) :
    s.takeCapture = s.withLine { s.line with inFlight := none } := by
  have hdue : s.captureDue = true := by simp [State.captureDue, hb, hlost]
  rw [State.takeCapture_of_due hdue hage hwait]
  simp only [State.completeCapture, hb, hentries, hlost, if_true]

/-- 05 R89: while reference control is IDLE a formed capture goes to the line table. -/
theorem State.takeCapture_of_idle (hage : s.arrival.ageTick = false) (hwait : s.reref.wait = none)
    (hb : s.line.inFlight = some b) (h0 : s.axis.entry b.k = some e0)
    (h1 : s.axis.entry (nextIndex b.k) = some e1) :
    s.takeCapture
      = (s.withLine { s.line with inFlight := none }).tableCapture (s.formCapture b.tOff e0 e1) := by
  have hentries : s.bracketEntries b = some (e0, e1) := by rw [State.bracketEntries, h0, h1]
  have hdue : s.captureDue = true := by simp [State.captureDue, hb, hentries]
  have hidle : (s.withLine { s.line with inFlight := none }).waiting = false :=
    congrArg Option.isSome hwait
  rw [State.takeCapture_of_due hdue hage hwait]
  simp only [State.completeCapture, hb, hentries, State.formCapture_withLine, State.routeCapture, hidle,
    Bool.false_eq_true, if_false]

end

/-! #### The record that a capture matches (06 R92, 07 R130) -/

theorem LineRecord.inWindow_iff {r : LineRecord} {x : Int} :
    r.inWindow x = true ↔ r.nominal - (r.halfWidth : Int) ≤ x ∧ x ≤ r.nominal + (r.halfWidth : Int) := by
  rw [LineRecord.inWindow, Bool.and_eq_true, decide_eq_true_iff, decide_eq_true_iff]
  rfl

/-- 06 R92: a position in a record's window lies in no window of a record before it. -/
theorem LineRecord.not_inWindow_of_before {a r : LineRecord} {x : Int} (h : a.before r)
    (hr : r.inWindow x = true) : a.inWindow x = false := by
  obtain ⟨-, -, happart⟩ := h
  rw [Bool.eq_false_iff, ne_eq, LineRecord.inWindow_iff]
  rw [LineRecord.inWindow_iff] at hr
  omega

section
variable {t : List LineRecord} {r : LineRecord} {c : Capture} {d : Direction} {x : Int}

/-- 06 R92: the windows being disjoint, the record whose window holds a position is the one found. -/
theorem findWindow_of_mem (ht : t.Pairwise LineRecord.before) (hr : r ∈ t) (hx : r.inWindow x = true) :
    findWindow t x = some r := by
  induction ht with
  | nil => cases hr
  | @cons a rest hbefore _ ih =>
    rcases List.mem_cons.mp hr with rfl | hrest
    · exact List.find?_cons_of_pos hx
    · have hout := LineRecord.not_inWindow_of_before (hbefore r hrest) hx
      simpa only [findWindow, List.find?_cons, hout] using ih hrest

theorem findWindow_of_none (h : ∀ r ∈ t, ¬r.inWindow x = true) : findWindow t x = none :=
  List.find?_eq_none.mpr h

theorem Motion.agrees_iff {m : Motion} :
    m.agrees d = true ↔ m = .fwd ∧ d = .fwd ∨ m = .rev ∧ d = .rev := by
  cases m <;> cases d <;> decide

/-- 07 R130 cases 1 to 4: what makes a capture a stray. -/
theorem matchCapture_eq_none (ht : t.Pairwise LineRecord.before)
    (h : c.ref = false ∨ (∀ r ∈ t, ¬r.inWindow c.x = true)
      ∨ (∃ r ∈ t, r.inWindow c.x = true ∧ (r.state = .dormant ∨ r.state = .primed ∨ r.state = .retired))
      ∨ ¬c.direction.agrees d = true) : matchCapture t d c = none := by
  unfold matchCapture
  rcases h with href | hout | ⟨r, hr, hx, hstate⟩ | hagrees
  · simp [href]
  · simp [findWindow_of_none hout]
  · rw [findWindow_of_mem ht hr hx]
    rcases hstate with hstate | hstate | hstate <;> simp [hstate]
  · simp only [if_neg hagrees]
    split
    · rfl
    · cases findWindow t c.x with
      | none => rfl
      | some r => cases hr : r.state <;> simp [hr]

/-- 07 R130: past cases 1 to 4, the capture matches the record whose window holds it. -/
theorem matchCapture_of_mem (ht : t.Pairwise LineRecord.before) (hr : r ∈ t) (href : c.ref = true)
    (hx : r.inWindow c.x = true) (hagrees : c.direction.agrees d = true)
    (hstate : r.state = .armed ∨ r.state = .missed ∨ r.state = .taken) :
    matchCapture t d c = some r := by
  simp only [matchCapture, href, Bool.not_true, Bool.false_eq_true, if_false, findWindow_of_mem ht hr hx]
  rcases hstate with hstate | hstate | hstate <;> simp [hstate, hagrees]

end

/-! #### What a capture makes of the table and of the pass (07 R130, R132 to R135) -/

/-- The pass monitor with the open pass's counters replaced. -/
def PassUnit.counted (u : PassUnit) (p : PassContext) (n : PassCounters) : PassUnit :=
  { u with context := some { p with counters := n } }

section
variable {s : State} {c : Capture} {p : PassContext} {r : LineRecord}

theorem State.count_of_open (hp : s.pass.context = some p) (f : PassCounters → PassCounters) :
    s.count f = s.withPass (s.pass.counted p (f p.counters)) := by
  rw [State.count, State.setContext, hp]
  rfl

theorem State.tableCapture_of_closed (hp : s.pass.context = none) :
    s.tableCapture c = s.withPass { s.pass with idleStrays := inc32 s.pass.idleStrays } := by
  rw [State.tableCapture, hp]

theorem State.tableCapture_of_stray (hp : s.pass.context = some p)
    (hm : matchCapture s.table p.direction c = none) :
    s.tableCapture c = s.withPass (s.pass.counted p
      { p.counters with
        delivered := inc32 p.counters.delivered, strays := inc32 p.counters.strays }) := by
  simp only [State.tableCapture, hp, State.count_of_open hp, State.withPass_table, hm]
  rfl

/-- 07 R132: a capture takes an ARMED record. -/
theorem State.tableCapture_of_armed (hp : s.pass.context = some p)
    (hm : matchCapture s.table p.direction c = some r) (hr : r.state = .armed) :
    s.tableCapture c =
      (s.withTable (replaceLine s.table r.line (r.take (pendingOf c p.direction p.number)))).withPass
        (s.pass.counted p
          { p.counters with
            delivered := inc32 p.counters.delivered, taken := inc32 p.counters.taken
            flagged := if c.marks.flagged then inc32 p.counters.flagged else p.counters.flagged }) := by
  simp only [State.tableCapture, hp, State.count_of_open hp, State.withPass_table, hm, hr]
  rfl

/-- 07 R133: a capture takes a MISSED record late. -/
theorem State.tableCapture_of_missed (hp : s.pass.context = some p)
    (hm : matchCapture s.table p.direction c = some r) (hr : r.state = .missed) :
    s.tableCapture c =
      (s.withTable (replaceLine s.table r.line (r.take (pendingOf c p.direction p.number)))).withPass
        (s.pass.counted p
          { p.counters with
            delivered := inc32 p.counters.delivered, late := inc32 p.counters.late
            flagged := if c.marks.flagged then inc32 p.counters.flagged else p.counters.flagged }) := by
  simp only [State.tableCapture, hp, State.count_of_open hp, State.withPass_table, hm, hr]
  rfl

/-- 07 R134: a further capture marks a TAKEN record's pending part double. -/
theorem State.tableCapture_of_taken (hp : s.pass.context = some p)
    (hm : matchCapture s.table p.direction c = some r) (hr : r.state = .taken) :
    s.tableCapture c =
      (s.withTable (replaceLine s.table r.line r.markDouble)).withPass
        (s.pass.counted p
          { p.counters with
            delivered := inc32 p.counters.delivered, doubles := inc32 p.counters.doubles }) := by
  simp only [State.tableCapture, hp, State.count_of_open hp, State.withPass_table, hm, hr]
  rfl

theorem LineRecord.markDouble_of_pending {old : PendingPart} (h : r.pending = some old) :
    r.markDouble = { r with pending := some { old with double := true } } := by
  rw [LineRecord.markDouble, h, Option.map_some]

end

/-- Settles O22: first whether the capture is formed, then what the line table makes of it. -/
theorem captureReachesTable : Obligations.CaptureReachesTable := by
  refine ⟨?empty, ?incomplete, ?formed⟩
  case empty =>
    intro s hb
    have hidle : s.captureDue = false := by rw [State.captureDue, hb]
    exact congrArg Host.Outcome.next (State.takeCapture_of_not_due hidle)
  case incomplete =>
    intro s b hb hmissing
    have hentries := State.bracketEntries_eq_none hmissing
    refine ⟨fun hstands => congrArg Host.Outcome.next (State.takeCapture_of_not_due
      (State.captureDue_of_incomplete hb hentries (State.bracketLost_eq_false hstands))), ?_⟩
    intro n hn hle hgone hage _ hwait
    exact congrArg Host.Outcome.next (State.takeCapture_of_lost hage hwait hb hentries
      (State.bracketLost_iff.mpr ⟨⟨n, hn, hle⟩, hgone⟩))
  case formed =>
    intro s u b e0 e1 c hage _ hwait hb h0 h1 hc hu
    have hexec : exec .captureFormed s = .next (u.tableCapture c) := by
      rw [hu, hc]
      exact congrArg Host.Outcome.next (State.takeCapture_of_idle hage hwait hb h0 h1)
    have hpass : u.pass = s.pass := hu ▸ rfl
    have htable : u.table = s.table := hu ▸ rfl
    rw [hexec, ← hpass, ← htable]
    refine ⟨fun hclosed => congrArg _ (State.tableCapture_of_closed hclosed), ?_⟩
    rintro p hp ⟨-, hordered⟩
    rw [← htable] at hordered
    refine ⟨fun hstray => ?stray, fun r hr href hlow hhigh hmotion taken htaken => ?matched⟩
    case stray =>
      refine congrArg _ (State.tableCapture_of_stray hp (matchCapture_eq_none hordered ?_))
      simpa only [LineRecord.inWindow_iff, Motion.agrees_iff, and_assoc] using hstray
    case matched =>
      have hmatch := matchCapture_of_mem hordered hr href (LineRecord.inWindow_iff.mpr ⟨hlow, hhigh⟩)
        (Motion.agrees_iff.mpr hmotion)
      obtain rfl : taken = r.take (pendingOf c p.direction p.number) := htaken
      refine ⟨fun harmed => ?_, fun hmissed => ?_, fun old htwice hold => ?_⟩
      · exact congrArg _ (State.tableCapture_of_armed hp (hmatch (.inl harmed)) harmed)
      · exact congrArg _ (State.tableCapture_of_missed hp (hmatch (.inr (.inl hmissed))) hmissed)
      · rw [State.tableCapture_of_taken hp (hmatch (.inr (.inr htwice))) htwice,
          LineRecord.markDouble_of_pending hold]
        rfl

end Sys2Proof.Machine
end

/-! ### The order of the line table (06 R92, R97, R98, R110, R111) -/

section
namespace Sys2Proof.Machine

/-! #### The first and the last record of an ordered table that pass a test -/

section
variable {α : Type} {R : α → α → Prop} {t : List α} {p : α → Bool} {q r : α}

theorem eq_or_rel_of_find? (ht : t.Pairwise R) (h : t.find? p = some r) (hq : q ∈ t) (hp : p q = true) :
    q = r ∨ R r q := by
  obtain ⟨-, before, after, rfl, hbefore⟩ := List.find?_eq_some_iff_append.mp h
  rcases List.mem_append.mp hq with hq | hq
  · exact absurd hp (by simpa using hbefore q hq)
  · rcases List.mem_cons.mp hq with rfl | hq
    · exact .inl rfl
    · obtain ⟨-, htail, -⟩ := List.pairwise_append.mp ht
      exact .inr (List.rel_of_pairwise_cons htail hq)

theorem eq_or_rel_of_getLast? (ht : t.Pairwise R) (h : (t.filter p).getLast? = some r) (hq : q ∈ t)
    (hp : p q = true) : q = r ∨ R q r := by
  obtain ⟨before, hsplit⟩ := List.getLast?_eq_some_iff.mp h
  have hmem : q ∈ before ++ [r] := hsplit ▸ List.mem_filter.mpr ⟨hq, hp⟩
  have hpair : (before ++ [r]).Pairwise R := hsplit ▸ ht.filter p
  rcases List.mem_append.mp hmem with hq | hq
  · exact .inr ((List.pairwise_append.mp hpair).2.2 q hq r (by simp))
  · exact .inl (by simpa using hq)

theorem mem_of_getLast?_filter (h : (t.filter p).getLast? = some r) : r ∈ t ∧ p r = true :=
  List.mem_filter.mp (List.mem_of_getLast? h)

end

/-! #### Two records of one table -/

section
variable {t : List LineRecord} {a b r new : LineRecord} {line x : Int} {w : Nat} {p : LineRecord → Bool}

/-- 06 R92: of two records of a table one stands before the other. -/
theorem before_total (ht : t.Pairwise LineRecord.before) (ha : a ∈ t) (hb : b ∈ t) :
    a = b ∨ a.before b ∨ b.before a := by
  induction ht with
  | nil => cases ha
  | @cons c t hbefore _ ih =>
    rcases List.mem_cons.mp ha with rfl | hta <;> rcases List.mem_cons.mp hb with rfl | htb
    · exact .inl rfl
    · exact .inr (.inl (hbefore b htb))
    · exact .inr (.inr (hbefore a hta))
    · exact ih hta htb

/-- 06 R92: a line number names one record. -/
theorem eq_of_line_eq (ht : t.Pairwise LineRecord.before) (ha : a ∈ t) (hb : b ∈ t)
    (h : a.line = b.line) : a = b := by
  rcases before_total ht ha hb with heq | ⟨hlt, -⟩ | ⟨hlt, -⟩
  · exact heq
  all_goals omega

theorem before_of_line_lt (ht : t.Pairwise LineRecord.before) (ha : a ∈ t) (hb : b ∈ t)
    (h : a.line < b.line) : a.before b := by
  rcases before_total ht ha hb with rfl | hab | ⟨hlt, -⟩
  · omega
  · exact hab
  · omega

/-! #### Lookups -/

theorem findLine_eq_none_iff : findLine t line = none ↔ ∀ r ∈ t, r.line ≠ line := by
  simp [findLine]

theorem line_of_findLine (h : findLine t line = some r) : r ∈ t ∧ r.line = line :=
  ⟨List.mem_of_find?_eq_some h, by simpa using List.find?_some h⟩

theorem findLine_of_mem (ht : t.Pairwise LineRecord.before) (hr : r ∈ t) (h : r.line = line) :
    findLine t line = some r := by
  cases hfind : findLine t line with
  | none => exact absurd h (findLine_eq_none_iff.mp hfind r hr)
  | some q =>
    obtain ⟨hq, hline⟩ := line_of_findLine hfind
    rw [eq_of_line_eq ht hq hr (hline.trans h.symm)]

/-- 06 R111: the record of the lowest line number among those that pass a test. -/
theorem find?_of_least (ht : t.Pairwise LineRecord.before) (hr : r ∈ t) (hp : p r = true)
    (hleast : ∀ q ∈ t, p q = true → r.line ≤ q.line) : t.find? p = some r := by
  cases hfind : t.find? p with
  | none => exact absurd hp (List.find?_eq_none.mp hfind r hr)
  | some q =>
    rcases eq_or_rel_of_find? ht hfind hr hp with rfl | ⟨hlt, -⟩
    · rfl
    · have := hleast q (List.mem_of_find?_eq_some hfind) (List.find?_some hfind)
      omega

/-- 06 R111: the record of the highest line number among those that pass a test. -/
theorem getLast?_of_greatest (ht : t.Pairwise LineRecord.before) (hr : r ∈ t) (hp : p r = true)
    (hgreatest : ∀ q ∈ t, p q = true → q.line ≤ r.line) : (t.filter p).getLast? = some r := by
  cases hlast : (t.filter p).getLast? with
  | none =>
    have hmem : r ∈ t.filter p := List.mem_filter.mpr ⟨hr, hp⟩
    simp [List.getLast?_eq_none_iff.mp hlast] at hmem
  | some q =>
    obtain ⟨hq, hpq⟩ := mem_of_getLast?_filter hlast
    rcases eq_or_rel_of_getLast? ht hlast hr hp with rfl | ⟨hlt, -⟩
    · rfl
    · have := hgreatest q hq hpq
      omega

/-! #### Neighbours (06 R97) -/

/-- A test that passes below every record it passes holds of all lower records once it holds of the next. -/
theorem passesBeside_lowerNeighbour (ht : t.Pairwise LineRecord.before)
    (hbelow : ∀ a b : LineRecord, a.before b → p b = true → p a = true) :
    passesBeside p (lowerNeighbour t line) = true ↔ ∀ r ∈ t, r.line < line → p r = true := by
  cases hn : lowerNeighbour t line with
  | none =>
    have hnone : ∀ r ∈ t, line ≤ r.line := by simpa [lowerNeighbour] using hn
    refine iff_of_true rfl fun r hr hlt => ?_
    have := hnone r hr
    omega
  | some n =>
    obtain ⟨hmem, hlt⟩ := mem_of_getLast?_filter hn
    refine ⟨fun hp r hr hr' => ?_, fun h => h n hmem (by simpa using hlt)⟩
    rcases eq_or_rel_of_getLast? ht hn hr (by simpa using hr') with rfl | hbefore
    · exact hp
    · exact hbelow r n hbefore hp

theorem passesBeside_upperNeighbour (ht : t.Pairwise LineRecord.before)
    (habove : ∀ a b : LineRecord, a.before b → p a = true → p b = true) :
    passesBeside p (upperNeighbour t line) = true ↔ ∀ r ∈ t, line < r.line → p r = true := by
  cases hn : upperNeighbour t line with
  | none =>
    have hnone : ∀ r ∈ t, r.line ≤ line := by simpa [upperNeighbour] using hn
    refine iff_of_true rfl fun r hr hlt => ?_
    have := hnone r hr
    omega
  | some n =>
    refine ⟨fun hp r hr hr' => ?_,
      fun h => h n (List.mem_of_find?_eq_some hn) (by simpa using List.find?_some hn)⟩
    rcases eq_or_rel_of_find? ht hn hr (by simpa using hr') with rfl | hbefore
    · exact hp
    · exact habove n r hbefore hp

/-- 06 R97 step 4: beside the neighbours means beside every record. -/
theorem orderHolds_iff (ht : t.Pairwise LineRecord.before) :
    orderHolds t line x = true ↔ ∀ r ∈ t,
      (r.line < line → r.nominal < x) ∧ (line < r.line → x < r.nominal) := by
  rw [orderHolds, Bool.and_eq_true, passesBeside_lowerNeighbour ht, passesBeside_upperNeighbour ht]
  · simp only [decide_eq_true_iff, ← forall_and]
  · rintro a b ⟨-, hlt, -⟩ h
    exact decide_eq_true ((of_decide_eq_true h).trans hlt)
  · rintro a b ⟨-, hlt, -⟩ h
    exact decide_eq_true (hlt.trans (of_decide_eq_true h))

/-- 06 R97 step 5: free of the neighbours' windows means free of every window. -/
theorem windowFree_iff (ht : t.Pairwise LineRecord.before) :
    windowFree t line x w = true ↔ ∀ r ∈ t,
      (r.line < line → r.nominal + (r.halfWidth : Int) < x - (w : Int))
        ∧ (line < r.line → x + (w : Int) < r.nominal - (r.halfWidth : Int)) := by
  rw [windowFree, Bool.and_eq_true, passesBeside_lowerNeighbour ht, passesBeside_upperNeighbour ht]
  · simp only [decide_eq_true_iff, ← forall_and]
    exact Iff.rfl
  · rintro a b ⟨-, -, hlt⟩ h
    have ha : x + (w : Int) < a.nominal - (a.halfWidth : Int) := of_decide_eq_true h
    exact decide_eq_true (show x + (w : Int) < b.nominal - (b.halfWidth : Int) by omega)
  · rintro a b ⟨-, -, hlt⟩ h
    have hb : b.nominal + (b.halfWidth : Int) < x - (w : Int) := of_decide_eq_true h
    exact decide_eq_true (show a.nominal + (a.halfWidth : Int) < x - (w : Int) by omega)

/-! #### A record joins, is replaced, or leaves (06 R98, R99, R101) -/

/-- A record that the order and window tests pass stands in the order wherever its line number puts it. -/
def StandsIn (new : LineRecord) (t : List LineRecord) : Prop :=
  ∀ q ∈ t, (q.line < new.line → q.before new) ∧ (new.line < q.line → new.before q)

theorem standsIn_of_tests (ht : t.Pairwise LineRecord.before)
    (horder : orderHolds t new.line new.nominal = true)
    (hfree : windowFree t new.line new.nominal new.halfWidth = true) : StandsIn new t := by
  intro q hq
  obtain ⟨hlow, hhigh⟩ := (orderHolds_iff ht).mp horder q hq
  obtain ⟨hbelow, habove⟩ := (windowFree_iff ht).mp hfree q hq
  exact ⟨fun h => ⟨h, hlow h, hbelow h⟩, fun h => ⟨h, hhigh h, habove h⟩⟩

theorem insertRecord_perm (r : LineRecord) (t : List LineRecord) : (insertRecord r t).Perm (r :: t) := by
  induction t with
  | nil => exact .refl _
  | cons a t ih =>
    unfold insertRecord
    split
    · exact .refl _
    · exact (ih.cons a).trans (.swap r a t)

theorem insertRecord_pairwise (ht : t.Pairwise LineRecord.before) (hfresh : ∀ r ∈ t, r.line ≠ new.line)
    (h : StandsIn new t) : (insertRecord new t).Pairwise LineRecord.before := by
  induction ht with
  | nil => exact List.pairwise_singleton _ _
  | @cons a t hbefore ht ih =>
    have ha := h a (by simp)
    have hrest := ih (fun r hr => hfresh r (by simp [hr])) (fun q hq => h q (by simp [hq]))
    unfold insertRecord
    split
    next hlt =>
      refine .cons (fun q hq => ?_) (.cons hbefore ht)
      rcases List.mem_cons.mp hq with rfl | hq
      · exact ha.2 hlt
      · exact (h q (by simp [hq])).2 (hlt.trans (hbefore q hq).1)
    next hge =>
      have hne := hfresh a (by simp)
      refine .cons (fun q hq => ?_) hrest
      rcases List.mem_cons.mp ((insertRecord_perm new t).mem_iff.mp hq) with rfl | hq
      · exact ha.1 (by omega)
      · exact hbefore q hq

theorem replaceLine_pairwise (ht : t.Pairwise LineRecord.before) (h : StandsIn new t) :
    (replaceLine t new.line new).Pairwise LineRecord.before := by
  refine List.pairwise_map.mpr (ht.imp_of_mem fun {a b} ha hb hab => ?_)
  obtain ⟨hlt, -⟩ := id hab
  split
  next hnew =>
    rw [if_neg (by omega)]
    exact (h b hb).2 (by omega)
  next hnew =>
    split
    next hnew' => exact (h a ha).1 (by omega)
    next => exact hab

/-- A record replaced by itself leaves the table. -/
theorem replaceLine_self (ht : t.Pairwise LineRecord.before) (hr : r ∈ t) : replaceLine t r.line r = t := by
  have hself : ∀ q ∈ t, (if q.line = r.line then r else q) = q := fun q hq =>
    ite_eq_right_iff.mpr fun h => (eq_of_line_eq ht hq hr h).symm
  exact (List.map_congr_left hself).trans (List.map_id' t)

theorem mem_replaceLine (h : a ∈ replaceLine t line new) : a = new ∨ a ∈ t := by
  obtain ⟨q, hq, rfl⟩ := List.mem_map.mp h
  split
  exacts [.inl rfl, .inr hq]

end

end Sys2Proof.Machine
end

/-! ### A record at the commit of a pass (06 R95, R106, R107, 07 R122) -/

section
namespace Sys2Proof.Machine

/-! #### Halves and targets (06 R95, R106) -/

theorem mergeHalf_none (p : PendingPart) :
    mergeHalf none p =
      { n := 1, sumX := p.x, minX := p.x, maxX := p.x, lastX := p.x
        ny := if p.y.isSome then 1 else 0, sumY := p.y.getD 0
        flagged := if p.marks.flagged then 1 else 0, lastPass := p.pass } := by
  unfold mergeHalf
  cases p.y <;> rfl

theorem mergeHalf_some (h : Half) (p : PendingPart) :
    mergeHalf (some h) p =
      { n := h.n + 1, sumX := h.sumX + p.x, minX := min h.minX p.x, maxX := max h.maxX p.x
        lastX := p.x, ny := h.ny + if p.y.isSome then 1 else 0, sumY := h.sumY + p.y.getD 0
        flagged := h.flagged + if p.marks.flagged then 1 else 0, lastPass := p.pass } := by
  have hmin : (if p.x < h.minX then p.x else h.minX) = min h.minX p.x := by split <;> omega
  have hmax : (if h.maxX < p.x then p.x else h.maxX) = max h.maxX p.x := by split <;> omega
  simp only [mergeHalf, hmin, hmax]
  cases p.y <;> rfl

theorem targetMet_iff {target : Nat} {h : Option Half} :
    targetMet target h = true ↔ (target ≠ 0 → ∃ q, h = some q ∧ target ≤ q.n) := by
  by_cases ht : target = 0
  · simp [targetMet, ht]
  · cases h <;> simp [targetMet, ht]

namespace LineRecord

variable {r : LineRecord} {p : PendingPart} {d : Direction}

theorem isComplete_iff : r.isComplete = true ↔ r.TargetsReached := by
  simp only [isComplete, TargetsReached, Bool.and_eq_true, targetMet_iff, and_assoc, Bool.not_eq_true',
    Bool.and_eq_false_iff, beq_eq_false_iff_ne]

theorem halfFull_eq_false_iff : r.halfFull d = false ↔ ∀ h, r.half d = some h → h.n < 65535 := by
  unfold halfFull
  cases r.half d with
  | none => simp
  | some h =>
    simp only [Option.some.injEq, forall_eq', decide_eq_false_iff_not, Nat.not_le]
    rfl

theorem half_setHalf (r : LineRecord) (d : Direction) (h : Half) : (r.setHalf d h).half d = some h := by
  cases d <;> rfl

/-- 06 R106: a merge touches only the half of the capture's direction. -/
theorem merge_eq (r : LineRecord) (p : PendingPart) :
    r.merge p =
      { r with
        fwd := if p.direction = .fwd then some (mergeHalf r.fwd p) else r.fwd
        rev := if p.direction = .rev then some (mergeHalf r.rev p) else r.rev } := by
  unfold merge
  cases p.direction <;> rfl

/-! #### The rows of the commit (06 R107) -/

theorem commit_of_missed (h : r.state = .missed) :
    r.commit = { r with state := .armed, pending := none, misses := satInc Config.top16 r.misses } := by
  simp only [commit, h]

theorem commit_of_other (hm : r.state ≠ .missed) (ht : r.state ≠ .taken) : r.commit = r := by
  cases h : r.state <;> simp_all [commit]

theorem commit_of_full (h : r.state = .taken) (hp : r.pending = some p)
    (hfull : r.halfFull p.direction = true) :
    r.commit = { r with state := .dormant, full := true, pending := none } := by
  simp only [commit, h, hp, hfull, if_true]

theorem commit_of_double (h : r.state = .taken) (hp : r.pending = some p)
    (hfull : r.halfFull p.direction = false) (hdouble : p.double = true) :
    r.commit =
      { r with state := .armed, pending := none, doubles := satInc Config.top16 r.doubles } := by
  simp only [commit, h, hp, hfull, hdouble, if_true, Bool.false_eq_true, if_false]

/-- 06 R107, the last row: a record with its capture merged is DORMANT when complete, ARMED when not. -/
theorem commit_of_merge (h : r.state = .taken) (hp : r.pending = some p)
    (hfull : r.halfFull p.direction = false) (hdouble : p.double = false) :
    r.commit =
      { r.merge p with
        pending := none, complete := (r.merge p).isComplete
        state := if (r.merge p).isComplete then .dormant else .armed } := by
  have hlast : r.commit =
      let m := ({ r with pending := none } : LineRecord).merge p
      if m.isComplete then { m with complete := true, state := .dormant }
      else { m with complete := false, state := .armed } := by
    simp only [commit, h, hp, hfull, hdouble, Bool.false_eq_true, if_false]
  have hmerge : ({ r with pending := none } : LineRecord).merge p = { r.merge p with pending := none } := by
    rw [merge_eq, merge_eq]
  have hcomplete : ({ r.merge p with pending := none } : LineRecord).isComplete = (r.merge p).isComplete :=
    rfl
  rw [hlast, hmerge]
  dsimp only
  rw [hcomplete]
  cases (r.merge p).isComplete <;> rfl

/-- 07 R122: the records that a commit counts are those that it merges. -/
theorem commits_iff : r.commits = true ↔ r.state = .taken ∧ ∃ p, r.pending = some p
    ∧ p.double = false ∧ r.halfFull p.direction = false := by
  unfold commits
  cases hs : r.state <;> cases hp : r.pending <;> simp [and_comm]

end LineRecord

/-- Settles O19: the commit row by row, and for the last row the half that the merge leaves. -/
theorem commitSettlesRecord : Obligations.CommitSettlesRecord := by
  intro r
  refine ⟨LineRecord.commit_of_missed, LineRecord.commit_of_other, ?commits,
    fun p ht hp => ⟨?full, ?double, ?merged⟩⟩
  case commits => simp only [LineRecord.commits_iff, LineRecord.halfFull_eq_false_iff]
  case full =>
    rintro ⟨h, hh, hn⟩
    refine LineRecord.commit_of_full ht hp (Bool.not_eq_false _ ▸ fun hfull => ?_)
    exact absurd (LineRecord.halfFull_eq_false_iff.mp hfull h hh) (Nat.not_lt.mpr hn)
  case double =>
    exact fun hroom => LineRecord.commit_of_double ht hp (LineRecord.halfFull_eq_false_iff.mpr hroom)
  case merged =>
    intro hroom hdouble
    have hcommit := LineRecord.commit_of_merge ht hp (LineRecord.halfFull_eq_false_iff.mpr hroom) hdouble
    have hhalf : r.commit.half p.direction = some (mergeHalf (r.half p.direction) p) := by
      rw [hcommit]
      exact r.half_setHalf _ _
    have hreached : r.commit.complete = true ↔ r.commit.TargetsReached := by
      rw [hcommit]
      exact LineRecord.isComplete_iff
    have hstate : r.commit.state = if r.commit.complete then .dormant else .armed := by rw [hcommit]
    refine ⟨?_, ?_, ?_, ?_, ?_, ?_, ?_, ?_, ?_, ?_, ?_, hstate, hreached, fun hd => ?_, fun hd => ?_,
      fun hnone => ?_, fun h hsome => ?_⟩
    case refine_14 => rw [hhalf, hnone, mergeHalf_none]
    case refine_15 => rw [hhalf, hsome, mergeHalf_some]
    case refine_12 | refine_13 => simp [hcommit, LineRecord.merge_eq, hd]
    all_goals simp only [hcommit, LineRecord.merge_eq]

end Sys2Proof.Machine
end

/-! ### Every step keeps the line table sound (06 R92 to R94, R96) -/

section
namespace Sys2Proof.Machine

/-! #### A record that keeps its place (06 R92) -/

/-- The same line number, nominal and half-width: all that the order of the table reads. -/
def LineRecord.SamePlace (a b : LineRecord) : Prop :=
  a.line = b.line ∧ a.nominal = b.nominal ∧ a.halfWidth = b.halfWidth

namespace LineRecord.SamePlace

variable {a b a' b' : LineRecord}

theorem refl (a : LineRecord) : a.SamePlace a := ⟨rfl, rfl, rfl⟩

theorem before (ha : a.SamePlace a') (hb : b.SamePlace b') (h : a'.before b') : a.before b := by
  obtain ⟨hal, han, hah⟩ := ha
  obtain ⟨hbl, hbn, hbh⟩ := hb
  rwa [LineRecord.before, hal, han, hah, hbl, hbn, hbh]

theorem standsIn {t : List LineRecord} (ht : t.Pairwise LineRecord.before) (hb : b ∈ t)
    (h : a.SamePlace b) : StandsIn a t := fun q hq =>
  ⟨fun hlt => before (refl q) h (before_of_line_lt ht hq hb (h.1 ▸ hlt)),
    fun hlt => before h (refl q) (before_of_line_lt ht hb hq (h.1 ▸ hlt))⟩

end LineRecord.SamePlace

/-! #### A sound record (06 R93, R94, R96) -/

/-- 06 R93: a merge leaves a half sound. -/
theorem Half.sound_mergeHalf {o : Option Half} (h : ∀ q, o = some q → q.sound ∧ q.n < 65535)
    (p : PendingPart) : (mergeHalf o p).sound := by
  have hy : (if p.y.isSome then 1 else 0) ≤ 1 := by split <;> decide
  have hf : (if p.marks.flagged then 1 else 0) ≤ 1 := by split <;> decide
  cases o with
  | none =>
    rw [mergeHalf_none]
    exact ⟨le_rfl, Nat.le_add_left 1 65534, le_rfl, le_rfl, by simp, by simp, hy, hf⟩
  | some q =>
    obtain ⟨⟨hpos, -, hmin, hmax, hlow, hhigh, hny, hflagged⟩, hroom⟩ := h q rfl
    rw [mergeHalf_some]
    refine ⟨by simp, hroom, min_le_right _ _, le_max_right _ _, ?_, ?_, add_le_add hny hy,
      add_le_add hflagged hf⟩
    · have := mul_le_mul_of_nonneg_left (min_le_left q.minX p.x) (Int.natCast_nonneg q.n)
      have := min_le_right q.minX p.x
      push_cast
      linarith
    · have := mul_le_mul_of_nonneg_left (le_max_left q.maxX p.x) (Int.natCast_nonneg q.n)
      have := le_max_right q.maxX p.x
      push_cast
      linarith

/-- What a record keeps while a pass is open, or while none is. -/
structure LineRecord.Sound (r : LineRecord) (isOpen : Bool) : Prop where
  fwd : ∀ h, r.fwd = some h → h.sound
  rev : ∀ h, r.rev = some h → h.sound
  pending : r.pending.isSome = true ↔ r.state = .taken
  idle : isOpen = false → r.state ≠ .taken ∧ r.state ≠ .missed

namespace LineRecord.Sound

variable {r : LineRecord} {o o' : Bool} {st : RecordState}

/-- An open pass asks nothing more of a record. -/
theorem opened (h : r.Sound o) : r.Sound true := ⟨h.fwd, h.rev, h.pending, nofun⟩

/-- A state that waits for no pass, with no capture. -/
theorem put (h : r.Sound o) (hst : st ≠ .taken ∧ st ≠ .missed) :
    ({ r with state := st, pending := none } : LineRecord).Sound o' :=
  ⟨h.fwd, h.rev, iff_of_false nofun hst.1, fun _ => hst⟩

/-- A record that holds no capture holds none in another state. -/
theorem move (h : r.Sound o) (hr : r.state ≠ .taken) (hst : st ≠ .taken ∧ st ≠ .missed) :
    ({ r with state := st } : LineRecord).Sound o' :=
  ⟨h.fwd, h.rev, iff_of_false (fun hp => hr (h.pending.mp hp)) hst.1, fun _ => hst⟩

/-- A record that no pass has taken or missed is sound whether a pass is open or not. -/
theorem closed (h : r.Sound o) (hst : r.state ≠ .taken ∧ r.state ≠ .missed) : r.Sound o' :=
  ⟨h.fwd, h.rev, h.pending, fun _ => hst⟩

/-- Of the halves, the pending capture and the state nothing else is read. -/
theorem congr {r' : LineRecord} (h : r.Sound o) (hf : r'.fwd = r.fwd) (hr : r'.rev = r.rev)
    (hp : r'.pending = r.pending) (hs : r'.state = r.state) : r'.Sound o :=
  ⟨hf ▸ h.fwd, hr ▸ h.rev, by rw [hp, hs]; exact h.pending, by rw [hs]; exact h.idle⟩

end LineRecord.Sound

/-- 06 R107: where the half of the capture's direction is not full, the merge leaves sound halves. -/
theorem LineRecord.Sound.halves_merge {r : LineRecord} {o : Bool} {p : PendingPart} (h : r.Sound o)
    (hfull : r.halfFull p.direction = false) :
    (∀ q, (r.merge p).fwd = some q → q.sound) ∧ ∀ q, (r.merge p).rev = some q → q.sound := by
  rw [LineRecord.halfFull_eq_false_iff] at hfull
  rw [LineRecord.merge_eq]
  cases hd : p.direction <;> rw [hd] at hfull
  · refine ⟨fun q hq => ?_, h.rev⟩
    cases hq
    exact Half.sound_mergeHalf (fun q hq => ⟨h.fwd q hq, hfull q hq⟩) p
  · refine ⟨h.fwd, fun q hq => ?_⟩
    cases hq
    exact Half.sound_mergeHalf (fun q hq => ⟨h.rev q hq, hfull q hq⟩) p

theorem LineRecord.samePlace_merge (r : LineRecord) (p : PendingPart) : (r.merge p).SamePlace r := by
  rw [LineRecord.merge_eq]
  exact ⟨rfl, rfl, rfl⟩

/-! #### What a pass makes of a record -/

/-- A record keeps its place and stays sound as it becomes another; a pass is open before or not, and after
or not. -/
structure LineRecord.Becomes (r r' : LineRecord) (o o' : Bool) : Prop where
  place : r'.SamePlace r
  sound : r.Sound o → r'.Sound o'

namespace LineRecord

variable (r : LineRecord) (o o' : Bool)

theorem becomes_commit : r.Becomes r.commit o o' := by
  by_cases hm : r.state = .missed
  · rw [commit_of_missed hm]
    exact ⟨⟨rfl, rfl, rfl⟩, fun h => (h.put (by decide)).congr rfl rfl rfl rfl⟩
  by_cases ht : r.state = .taken
  case neg =>
    rw [commit_of_other hm ht]
    exact ⟨.refl r, fun h => h.closed ⟨ht, hm⟩⟩
  cases hp : r.pending with
  | none =>
    have hnone : r.commit = { r with state := .armed, pending := none } := by simp only [commit, ht, hp]
    rw [hnone]
    exact ⟨⟨rfl, rfl, rfl⟩, fun h => h.put (by decide)⟩
  | some p =>
    cases hfull : r.halfFull p.direction with
    | true =>
      rw [commit_of_full ht hp hfull]
      exact ⟨⟨rfl, rfl, rfl⟩, fun h => (h.put (by decide)).congr rfl rfl rfl rfl⟩
    | false =>
      cases hdouble : p.double with
      | true =>
        rw [commit_of_double ht hp hfull hdouble]
        exact ⟨⟨rfl, rfl, rfl⟩, fun h => (h.put (by decide)).congr rfl rfl rfl rfl⟩
      | false =>
        rw [commit_of_merge ht hp hfull hdouble]
        refine ⟨samePlace_merge r p, fun h => ?_⟩
        obtain ⟨hfwd, hrev⟩ := h.halves_merge hfull
        have hst : ∀ b : Bool, (if b = true then RecordState.dormant else .armed) ≠ .taken
            ∧ (if b = true then RecordState.dormant else .armed) ≠ .missed := by decide
        exact ⟨hfwd, hrev, iff_of_false nofun (hst _).1, fun _ => hst _⟩

theorem becomes_discard : r.Becomes r.discard o o' := by
  rw [discard_eq]
  split
  next => exact ⟨⟨rfl, rfl, rfl⟩, fun h => h.put (by decide)⟩
  next hst => exact ⟨.refl r, fun h => h.closed (not_or.mp hst)⟩

theorem becomes_restart : r.Becomes r.restart o o' := by
  cases hst : r.state
  all_goals
    simp only [restart, hst]
    exact ⟨⟨rfl, rfl, rfl⟩, fun h => h.put (by decide)⟩

theorem becomes_joinPass : r.Becomes r.joinPass o true := by
  unfold joinPass
  split
  next hst => exact ⟨⟨rfl, rfl, rfl⟩, fun h => h.move (by simp [hst]) (by decide)⟩
  all_goals exact ⟨.refl r, fun h => h.opened⟩

theorem becomes_markCrossed (d : Direction) (xStart xFar : Int) :
    r.Becomes (r.markCrossed d xStart xFar) o true := by
  unfold markCrossed
  split
  next hst =>
    split
    · refine ⟨⟨rfl, rfl, rfl⟩, fun h => ⟨h.fwd, h.rev, ?_, nofun⟩⟩
      exact iff_of_false (fun hp => by simp [h.pending.mp hp] at hst) nofun
    · exact ⟨.refl r, fun h => h.opened⟩
  all_goals exact ⟨.refl r, fun h => h.opened⟩

theorem becomes_take (p : PendingPart) : r.Becomes (r.take p) o true :=
  ⟨⟨rfl, rfl, rfl⟩, fun h => ⟨h.fwd, h.rev, iff_of_true rfl rfl, nofun⟩⟩

theorem becomes_markDouble : r.Becomes r.markDouble o o :=
  ⟨⟨rfl, rfl, rfl⟩, fun h => ⟨h.fwd, h.rev, by simpa [markDouble] using h.pending, h.idle⟩⟩

/-! #### What a request makes of a record (06 R98, R101 to R105) -/

theorem armedState_ne (o : Bool) : armedState o ≠ .taken ∧ armedState o ≠ .missed := by
  cases o <;> decide

section
variable {r o} {r' : LineRecord}

theorem becomes_armEffect (h : r.armEffect o = .changed r') : r.Becomes r' o o := by
  unfold armEffect at h
  split at h
  · cases h
  · split at h <;> cases h
    next hst => exact ⟨⟨rfl, rfl, rfl⟩, fun h => h.move (by simp [hst]) (armedState_ne o)⟩

theorem becomes_disarmEffect (h : r.disarmEffect = .changed r') : r.Becomes r' o o := by
  unfold disarmEffect at h
  split at h <;> cases h
  all_goals exact ⟨⟨rfl, rfl, rfl⟩, fun h => h.put (by decide)⟩

theorem becomes_retireEffect (h : r.retireEffect = .changed r') : r.Becomes r' o o := by
  unfold retireEffect at h
  split at h <;> cases h
  all_goals exact ⟨⟨rfl, rfl, rfl⟩, fun h => h.put (by decide)⟩

theorem becomes_dropEffect (h : r.dropEffect = .changed r') : r.Becomes r' o o := by
  unfold dropEffect at h
  split at h <;> cases h

theorem becomes_clearEffect (h : r.clearEffect = .changed r') : r.Becomes r' o o := by
  unfold clearEffect at h
  split at h
  iterate 3 cases h
  all_goals
    split at h <;> cases h
    exact ⟨⟨rfl, rfl, rfl⟩, fun h => ⟨nofun, nofun, h.pending, h.idle⟩⟩

theorem Sound.amendApply (h : r.Sound o) (f : AmendFields) : (amendApply f r).Sound o := by
  have hset : (amendSettings f r).Sound o := h.congr rfl rfl rfl rfl
  have hwindow : (amendSettings f r).windowChanged.Sound o := by
    unfold windowChanged
    split
    iterate 2 exact hset.put (by decide)
    all_goals exact hset
  unfold Machine.amendApply
  dsimp only
  repeat' split
  exacts [hset, hwindow, hset.congr rfl rfl rfl rfl, hwindow.congr rfl rfl rfl rfl]

theorem sound_placeRecord (f : PlaceFields) (o : Bool) : (placeRecord f o).Sound o := by
  have hst : (placeRecord f o).state ≠ .taken ∧ (placeRecord f o).state ≠ .missed := by
    unfold placeRecord
    dsimp only
    split
    exacts [armedState_ne o, by decide]
  exact ⟨nofun, nofun, iff_of_false nofun hst.1, fun _ => hst⟩

/-- 06 R113: the operations of CLASS_OP are the single requests'. -/
theorem becomes_classEffect {n : Nat} {eff : LineRecord → RecordEffect} (he : classEffect o n = some eff)
    (h : eff r = .changed r') : r.Becomes r' o o := by
  unfold classEffect at he
  split at he <;> cases he
  exacts [becomes_armEffect h, becomes_disarmEffect h, becomes_retireEffect h, becomes_dropEffect h,
    becomes_clearEffect h]

end

end LineRecord

/-- 06 R101: an AMEND leaves the line number, and puts the carried nominal and half-width. -/
theorem amendApply_place (f : AmendFields) (r : LineRecord) :
    (amendApply f r).line = r.line ∧ (amendApply f r).nominal = f.nominal.getD r.nominal
      ∧ (amendApply f r).halfWidth = f.halfWidth.getD r.halfWidth := by
  have hwindow : (amendSettings f r).windowChanged.SamePlace (amendSettings f r) := by
    unfold LineRecord.windowChanged
    split <;> exact ⟨rfl, rfl, rfl⟩
  obtain ⟨hline, hnominal, hwidth⟩ := hwindow
  unfold amendApply
  dsimp only
  repeat' split
  exacts [⟨rfl, rfl, rfl⟩, ⟨hline, hnominal, hwidth⟩, ⟨rfl, rfl, rfl⟩, ⟨hline, hnominal, hwidth⟩]

/-! #### The table of a part -/

/-- 06 R92 to R94: the order of the table, and every record sound. -/
structure State.TableSound (s : State) : Prop where
  ordered : s.TableOrdered
  records : ∀ r ∈ s.table, r.Sound s.passOpen

theorem State.tableSound_iff {s : State} :
    s.TableSound ↔ s.TableOrdered ∧ s.HalvesSound ∧ s.PendingSound := by
  have hclosed : s.passOpen = false ↔ s.pass.context = none := by simp [State.passOpen]
  refine ⟨fun ⟨ho, hr⟩ => ⟨ho, fun r h => ⟨(hr r h).fwd, (hr r h).rev⟩, fun r h => (hr r h).pending,
    fun hc r h => (hr r h).idle (hclosed.mpr hc)⟩, fun ⟨ho, hh, hp, hi⟩ => ⟨ho, fun r h => ?_⟩⟩
  exact ⟨(hh r h).1, (hh r h).2, hp r h, fun hc => hi (hclosed.mp hc) r h⟩

namespace State.TableSound

variable {s t : State}

/-- The property reads the table and whether a pass is open. -/
theorem congr (h : s.TableSound) (htable : t.table = s.table) (hopen : t.passOpen = s.passOpen) :
    t.TableSound := by
  obtain ⟨ho, hr⟩ := h
  refine ⟨?_, ?_⟩
  · rwa [State.TableOrdered, htable]
  · rwa [htable, hopen]

/-- Every record becomes another or leaves the table. -/
theorem filterMap (h : s.TableSound) {f : LineRecord → Option LineRecord}
    (htable : t.table = s.table.filterMap f)
    (hf : ∀ r r' : LineRecord, f r = some r' → r.Becomes r' s.passOpen t.passOpen) : t.TableSound := by
  obtain ⟨⟨hlen, hpair⟩, hr⟩ := h
  refine ⟨⟨?_, ?_⟩, fun r' hr' => ?_⟩
  · rw [htable]
    exact (List.length_filterMap_le _ _).trans hlen
  · rw [htable, List.pairwise_filterMap]
    exact hpair.imp fun hab a' ha b' hb => LineRecord.SamePlace.before (hf _ _ ha).place (hf _ _ hb).place hab
  · rw [htable] at hr'
    obtain ⟨r, hmem, hfr⟩ := List.mem_filterMap.mp hr'
    exact (hf r r' hfr).sound (hr r hmem)

/-- Every record becomes another. -/
theorem map (h : s.TableSound) {f : LineRecord → LineRecord} (htable : t.table = s.table.map f)
    (hf : ∀ r : LineRecord, r.Becomes (f r) s.passOpen t.passOpen) : t.TableSound :=
  h.filterMap (f := some ∘ f) (by rw [htable, List.filterMap_eq_map]) fun r _ e => Option.some.inj e ▸ hf r

/-- Records leave the table. -/
theorem filter (h : s.TableSound) {p : LineRecord → Bool} (htable : t.table = s.table.filter p)
    (hopen : t.passOpen = s.passOpen) : t.TableSound :=
  h.filterMap (f := Option.guard p) (by rw [htable, List.filterMap_eq_filter]) fun r r' e => by
    rw [hopen, ← (Option.guard_eq_some_iff.mp e).1]
    exact ⟨.refl r, id⟩

/-- One record becomes another that has a place in the table. -/
theorem replace (h : s.TableSound) {r new : LineRecord} (hline : new.line = r.line)
    (htable : t.table = replaceLine s.table r.line new) (hopen : t.passOpen = s.passOpen)
    (hstands : StandsIn new s.table) (hnew : new.Sound s.passOpen) : t.TableSound := by
  obtain ⟨⟨hlen, hpair⟩, hr⟩ := h
  rw [← hline] at htable
  refine ⟨⟨by simpa [htable, replaceLine] using hlen, htable ▸ replaceLine_pairwise hpair hstands⟩,
    fun a ha => ?_⟩
  rw [hopen]
  rcases mem_replaceLine (htable ▸ ha) with rfl | ha
  exacts [hnew, hr a ha]

/-- One record becomes another where it stands. -/
theorem become (h : s.TableSound) {r new : LineRecord} (hr : r ∈ s.table)
    (hnew : r.Becomes new s.passOpen s.passOpen) (htable : t.table = replaceLine s.table r.line new)
    (hopen : t.passOpen = s.passOpen) : t.TableSound :=
  h.replace hnew.place.1 htable hopen (hnew.place.standsIn h.ordered.2 hr) (hnew.sound (h.records r hr))

end State.TableSound

end Sys2Proof.Machine
end

/-! ### Every step keeps the line table sound: the operations (06 R96 to R108, R113, R115, 07 R120 to R138) -/

section
namespace Sys2Proof.Machine

/-! #### What leaves the table alone -/

theorem State.passOpen_eq_true_iff {s : State} : s.passOpen = true ↔ ∃ c, s.pass.context = some c :=
  Option.isSome_iff_exists

@[simp] theorem State.count_passOpen (s : State) (f : PassCounters → PassCounters) :
    (s.count f).passOpen = s.passOpen := Option.isSome_map

@[simp] theorem State.count_table (s : State) (f : PassCounters → PassCounters) :
    (s.count f).table = s.table := rfl

theorem mem_of_matchCapture {t : List LineRecord} {d : Direction} {c : Capture} {r : LineRecord}
    (h : matchCapture t d c = some r) : r ∈ t := by
  unfold matchCapture at h
  split at h
  · cases h
  · split at h
    · cases h
    next q hq =>
      split at h
      iterate 3 cases h
      all_goals
        split at h <;> cases h
        exact List.mem_of_find?_eq_some hq

namespace State.TableSound

variable {s t : State}

theorem finishWait (h : s.TableSound) (o : RerefOutcome) (c : Option RerefCapture)
    (a : Option RerefApplied) : (s.finishWait o c a).TableSound := by
  obtain ⟨_, _, e⟩ := s.finishWait_shape o c a
  rw [e]
  exact h.congr rfl rfl

theorem epochMoved (h : s.TableSound) (ch : Channel) : (s.epochMoved ch).TableSound := by
  obtain ⟨_, e⟩ := s.epochMoved_shape ch
  rw [e]
  exact h.congr rfl rfl

/-! #### Passes open and close (06 R96, R107, R108, 07 R120 to R124, R131) -/

theorem openPass (h : s.TableSound) (d : Direction) (origin : PassMode) (xStart xFar : Int) :
    (s.openPass d origin xStart xFar).TableSound :=
  h.map rfl fun r => r.becomes_joinPass _

theorem markCrossings (h : s.TableSound) : s.markCrossings.TableSound := by
  unfold State.markCrossings
  split
  · exact h
  next c hc =>
    refine h.map rfl fun r => ?_
    have hopen : s.passOpen = true := State.passOpen_eq_true_iff.mpr ⟨c, hc⟩
    exact hopen ▸ r.becomes_markCrossed _ _ _ _

theorem closeComplete (h : s.TableSound) (reason : PassReason) : (s.closeComplete reason).TableSound := by
  unfold State.closeComplete
  split
  · exact h
  · exact h.map rfl fun r => r.becomes_commit _ _

theorem closeAborted (h : s.TableSound) (reason : PassReason) : (s.closeAborted reason).TableSound := by
  unfold State.closeAborted State.discardPass
  split
  · split
    · exact h.congr rfl rfl
    · exact h.map rfl fun r => r.becomes_discard _ _
  · exact h

/-! #### The check (07 R116 to R120) -/

/-- An open pass's context changes. -/
theorem setContext {c : PassContext} (h : s.TableSound) (hopen : s.passOpen = true) :
    (s.setContext (some c)).TableSound := h.congr rfl hopen.symm

theorem advanceFar (h : s.TableSound) (x : Int) : (s.advanceFar x).TableSound := by
  unfold State.advanceFar
  split
  · exact h
  next c hc => exact (h.setContext (State.passOpen_eq_true_iff.mpr ⟨c, hc⟩)).markCrossings

theorem settleTest (h : s.TableSound) (dx : Int) : (s.settleTest dx).TableSound := by
  unfold State.settleTest
  split
  · exact h
  next c hc =>
    have hset (run : Nat) := h.setContext (c := { c with settleRun := run })
      (State.passOpen_eq_true_iff.mpr ⟨c, hc⟩)
    dsimp only
    generalize (if decide (dx.natAbs < s.pass.stopThr) = true then satInc 65535 c.settleRun else 0) = run
    repeat' split
    exacts [(hset run).closeComplete _, (hset run).closeComplete _, hset run, hset run]

theorem autoOpen (h : s.TableSound) (x prev : Int) : (s.autoOpen x prev).TableSound := by
  unfold State.autoOpen
  dsimp only
  split
  exacts [(h.openPass _ _ _ _).markCrossings, h]

theorem runCheck (h : s.TableSound) : s.runCheck.TableSound := by
  have hprev {s : State} (h : s.TableSound) (x : Option Int) : (s.setPrevX x).TableSound := h.congr rfl rfl
  unfold State.runCheck
  dsimp only
  split
  · refine hprev ?_ _
    split
    exacts [h.advanceFar _, ((h.advanceFar _).settleTest _).autoOpen _ _]
  · exact hprev h _

/-! #### Captures (07 R130, R132 to R135, 08 R145 to R147) -/

theorem count (h : s.TableSound) (f : PassCounters → PassCounters) : (s.count f).TableSound :=
  h.congr (s.count_table f) (s.count_passOpen f)

theorem tableCapture (h : s.TableSound) (c : Capture) : (s.tableCapture c).TableSound := by
  unfold State.tableCapture
  split
  · exact h.congr rfl rfl
  next ctx hctx =>
    have hopen : s.passOpen = true := State.passOpen_eq_true_iff.mpr ⟨ctx, hctx⟩
    dsimp only
    split
    · exact (h.count _).count _
    next r hr =>
      have hmem := mem_of_matchCapture hr
      have hbecome (n : PassCounters → PassCounters) {new : LineRecord} (hnew : r.Becomes new true true) :
          ((s.count n).withTable (replaceLine s.table r.line new)).TableSound :=
        (h.count n).become hmem (by rwa [State.count_passOpen, hopen]) rfl rfl
      split
      · exact (hbecome _ (r.becomes_markDouble _)).count _
      all_goals exact (hbecome _ (r.becomes_take _ _)).count _

theorem rerefCapture (h : s.TableSound) (c : Capture) : (s.rerefCapture c).TableSound := by
  unfold State.rerefCapture
  split
  · exact h
  · split
    · exact h.congr rfl rfl
    · split
      · exact h.finishWait _ _ _
      · refine finishWait ?_ _ _ _
        exact h.congr rfl rfl

theorem completeCapture (h : s.TableSound) : s.completeCapture.TableSound := by
  have hline (l : LineInput) : (s.withLine l).TableSound := h.congr rfl rfl
  unfold State.completeCapture State.routeCapture
  split
  · exact h
  · split
    · dsimp only
      split
      exacts [(hline _).rerefCapture _, (hline _).tableCapture _]
    · split
      exacts [hline _, h]

/-! #### Events, arrivals and restarts -/

/-- The events that are due: a check and a capture reach the table, an aborted pass discards it. -/
theorem eventInvariant : State.EventInvariant State.TableSound where
  frame h := h.congr rfl rfl
  ageStep {s} h := by
    obtain ⟨_, _, e⟩ := s.ageStep_shape
    exact e ▸ h.congr rfl rfl
  fitStart {s} h := by
    obtain ⟨_, _, _, e⟩ := s.fitStart_shape
    exact e ▸ h.congr rfl rfl
  fitFinish {s} h := by
    obtain ⟨_, _, _, e⟩ := s.fitFinish_shape
    exact e ▸ h.congr rfl rfl
  fitTimeout {s} h := by
    obtain ⟨_, _, e⟩ := s.fitTimeout_shape
    exact e ▸ h.congr rfl rfl
  fillSlot h := h.congr rfl rfl
  installPending {s} ch h := by
    obtain ⟨_, _, _, e⟩ := s.installPending_shape ch
    exact e ▸ h.congr rfl rfl
  runCheck h := h.runCheck
  completeCapture h := h.completeCapture
  closeAborted r h := h.closeAborted r
  finishWait o c a h := h.finishWait o c a

theorem arrive (h : s.TableSound) (a : SampleInput) : (s.arrive a).TableSound := by
  rw [State.arrive_eq]
  refine eventInvariant.endings s a.captureFirst ?_
  obtain ⟨_, _, _, _, e, -⟩ := s.beforeEndings_eq a
  rw [e]
  exact h.congr rfl rfl

theorem pulse (h : s.TableSound) (edge : Edge) (e : Nat) : (s.pulse edge e).TableSound := by
  unfold State.pulse
  repeat' split
  exacts [h.count _, h.congr rfl rfl, h]

theorem restartAll (h : s.TableSound) (straps : Nat) : (s.restartAll straps).TableSound := by
  rw [State.restartAll_eq]
  exact h.map rfl fun r => r.becomes_restart _ _

theorem powerOn (s : State) (straps : Nat) : (s.powerOn straps).TableSound := by
  have hreset : State.reset.TableSound :=
    ⟨⟨Nat.zero_le _, .nil⟩, fun r hr => absurd hr List.not_mem_nil⟩
  exact hreset.congr rfl rfl

/-! #### Requests (06 R97 to R105, R113) -/

/-- 06 R98: the placed record stands between its neighbours. -/
theorem servePlace (h : s.TableSound) (f : PlaceFields) : (s.servePlace f).state.TableSound := by
  unfold State.servePlace
  split
  · exact h
  split
  · exact h
  next hfresh =>
  split
  · exact h
  next hroom =>
  split
  · exact h
  next horder =>
  split
  · exact h
  next hfree =>
    obtain ⟨⟨-, hpair⟩, hr⟩ := h
    have hstands : StandsIn (placeRecord f s.passOpen) s.table :=
      standsIn_of_tests hpair (Bool.not_not_eq.mp horder) (Bool.not_not_eq.mp hfree)
    have hnew : ∀ r ∈ s.table, r.line ≠ f.line := by simpa [findLine] using hfresh
    have hperm := insertRecord_perm (placeRecord f s.passOpen) s.table
    refine ⟨⟨?_, insertRecord_pairwise hpair hnew hstands⟩, fun r hr' => ?_⟩
    · have hlen : s.table.length < 2048 := Nat.lt_of_not_le hroom
      rw [State.withTable_table, hperm.length_eq]
      exact hlen
    · rcases List.mem_cons.mp (hperm.mem_iff.mp hr') with rfl | hr'
      exacts [LineRecord.sound_placeRecord f _, hr r hr']

/-- 06 R101: an AMEND that passes its tests leaves the record in the order. -/
theorem serveAmend (h : s.TableSound) (f : AmendFields) : (s.serveAmend f).state.TableSound := by
  unfold State.serveAmend
  split
  · exact h
  split
  · exact h
  next r hfind =>
  split
  · exact h
  split
  · exact h
  next horder =>
  split
  · exact h
  next hfree =>
    obtain ⟨hr, hline⟩ := line_of_findLine hfind
    obtain ⟨hplace, hnominal, hwidth⟩ := amendApply_place f r
    have hpair := h.ordered.2
    refine h.replace hplace (by rw [hline]; rfl) rfl (standsIn_of_tests hpair ?_ ?_)
      ((h.records r hr).amendApply f)
    · rw [hplace, hnominal, hline]
      cases hf : f.nominal with
      | none =>
        refine (orderHolds_iff hpair).mpr fun q hq => ⟨fun hlt => ?_, fun hlt => ?_⟩
        · obtain ⟨-, hbelow, -⟩ := before_of_line_lt hpair hq hr (hline ▸ hlt)
          exact hbelow
        · obtain ⟨-, habove, -⟩ := before_of_line_lt hpair hr hq (hline ▸ hlt)
          exact habove
      | some x => simpa [hf, ifCarried] using horder
    · rw [hplace, hnominal, hwidth, hline]
      exact Bool.not_not_eq.mp hfree

/-- 06 R99, R102 to R105: a request that names one record. -/
theorem serveRecord (h : s.TableSound) (line : Int) {eff : LineRecord → RecordEffect}
    (heff : ∀ r r', eff r = .changed r' → r.Becomes r' s.passOpen s.passOpen) :
    (s.serveRecord line eff).state.TableSound := by
  unfold State.serveRecord
  split
  · exact h
  next r hfind =>
    obtain ⟨hr, rfl⟩ := line_of_findLine hfind
    split
    · exact h
    · exact h
    next r' hchanged => exact h.become hr (heff r r' hchanged) rfl rfl
    · exact h.filter rfl rfl

/-- 06 R113: the records a CLASS_OP selects. -/
theorem serveClassOp (h : s.TableSound) (mask operation : Nat) :
    (s.serveClassOp mask operation).state.TableSound := by
  unfold State.serveClassOp
  split
  · exact h
  next eff heff =>
    refine h.filterMap rfl fun r r' hr' => ?_
    change r.Becomes r' s.passOpen s.passOpen
    split at hr'
    · cases he : eff r with
      | changed a =>
        rw [he] at hr'
        cases hr'
        exact LineRecord.becomes_classEffect heff he
      | refused | same =>
        rw [he] at hr'
        cases hr'
        exact ⟨.refl r, id⟩
      | removed =>
        rw [he] at hr'
        cases hr'
    · cases hr'
      exact ⟨.refl r, id⟩

theorem disableChannel (h : s.TableSound) (ch : Channel) : (s.disableChannel ch).TableSound := by
  have hfit : ((s.setCounter ch (s.chan ch).counter.disable).fitDisable ch).TableSound := by
    obtain ⟨_, _, _, e⟩ := (s.setCounter ch (s.chan ch).counter.disable).fitDisable_shape ch
    rw [e]
    exact h.congr rfl rfl
  unfold State.disableChannel State.measuringLost
  dsimp only
  split
  iterate 2 exact (hfit.closeAborted _).finishWait _ _ _
  all_goals exact hfit

theorem serveChannelSet (h : s.TableSound) (f : ChannelFields) : (s.serveChannelSet f).state.TableSound := by
  have hset (ch : Channel) (u : ChannelUnit) : (s.setChan ch u).TableSound := h.congr rfl rfl
  unfold State.serveChannelSet
  split
  · exact h
  next q _ =>
    have hset := hset q.channel ((s.chan q.channel).settings q f)
    dsimp only
    split
    · refine epochMoved ?_ q.channel
      exact hset.congr rfl rfl
    · split
      exacts [hset.disableChannel _, hset]

theorem servePreset (h : s.TableSound) (channel : Nat) (p : Int) :
    (s.servePreset channel p).state.TableSound := by
  have hpreset (ch : Channel) (c : Counter) : ((s.setCounter ch c).epochMoved ch).TableSound := by
    refine epochMoved ?_ ch
    exact h.congr rfl rfl
  unfold State.servePreset
  repeat' split
  iterate 6 exact h
  exacts [hpreset _ _, h, hpreset _ _]

/-- 09 R158 step 3: the requests of the table, of the pass and of the channels reach the table; the others
leave the table and the pass. -/
theorem serve (h : s.TableSound) (r : Request) : (s.serve r).state.TableSound := by
  cases r
  case place f => exact h.servePlace f
  case amend f => exact h.serveAmend f
  case arm => exact h.serveRecord _ fun _ _ => LineRecord.becomes_armEffect
  case disarm => exact h.serveRecord _ fun _ _ => LineRecord.becomes_disarmEffect
  case retire => exact h.serveRecord _ fun _ _ => LineRecord.becomes_retireEffect
  case drop => exact h.serveRecord _ fun _ _ => LineRecord.becomes_dropEffect
  case clear => exact h.serveRecord _ fun _ _ => LineRecord.becomes_clearEffect
  case classOp m o => exact h.serveClassOp m o
  case channelSet f => exact h.serveChannelSet f
  case preset c p => exact h.servePreset c p
  case fit c k =>
    obtain ⟨_, _, _, e⟩ := s.serveFit_shape c k
    rw [State.serve, e]
    exact h.congr rfl rfl
  case passOpen d =>
    dsimp only [State.serve, State.servePassOpen]
    repeat' split
    iterate 4 exact h
    exact h.openPass _ _ _ _
  case passClose =>
    dsimp only [State.serve, State.servePassClose]
    split
    exacts [h, h.closeComplete _]
  case passAbort =>
    dsimp only [State.serve, State.servePassAbort]
    split
    exacts [h, h.closeAborted _]
  case rerefCancel =>
    dsimp only [State.serve, State.serveRerefCancel]
    split
    exacts [h.finishWait _ _ _, h]
  all_goals
    dsimp only [State.serve, State.serveRead, State.serveStep, State.serveReadChannel, State.serveFitResult,
      State.serveAirSet, State.serveTrackerSet, State.serveGeometrySet, State.serveLineSet,
      State.servePassSet, State.serveReref, State.serveDriveSet, State.serveLinkSet]
    repeat' split
    all_goals exact h.congr rfl rfl

theorem stepInvariant : State.StepInvariant State.TableSound :=
  { eventInvariant with
    arrive := fun a h => h.arrive a
    pulse := fun edge e h => h.pulse edge e
    serve := fun r h => h.serve r
    restartAll := fun straps h => h.restartAll straps
    powerOn := powerOn }

end State.TableSound

/-- Settles O58: the order of the table and the soundness of its records are one step invariant. -/
theorem tableStaysSound : Obligations.TableStaysSound := by
  intro s t h e
  exact State.tableSound_iff.mp (State.TableSound.stepInvariant.step (State.tableSound_iff.mpr h) e)

end Sys2Proof.Machine
end

/-! ### PLACE and AMEND (06 R97, R98, R100, R101) -/

section
namespace Sys2Proof.Machine

/-! #### Ranges (06 section 6.1) -/

theorem isSome_boolOfCode_iff {n : Nat} : (boolOfCode n).isSome = true ↔ n ≤ 1 := by
  rw [Option.isSome_iff_ne_none, ne_eq, boolOfCode_eq_none_iff, not_lt]

theorem isSome_initialOfCode_iff {n : Nat} : (initialOfCode n).isSome = true ↔ n = 0 ∨ n = 2 := by
  match n with
  | 0 | 1 | 2 => decide
  | n + 3 => simp [initialOfCode]

theorem placeInRange_iff {f : PlaceFields} :
    placeInRange f = true ↔ (-1000000 ≤ f.line ∧ f.line ≤ 1000000)
      ∧ (-2000000000000 ≤ f.nominal ∧ f.nominal ≤ 2000000000000)
      ∧ (100000 ≤ f.halfWidth ∧ f.halfWidth ≤ 1000000000) ∧ f.cls ≤ 7 ∧ f.targetFwd ≤ 255
      ∧ f.targetRev ≤ 255 ∧ f.datum ≤ 1 ∧ (f.initial = 0 ∨ f.initial = 2) := by
  simp only [placeInRange, lineInRange, nominalInRange, halfWidthInRange, classInRange, targetInRange,
    Bool.and_eq_true, decide_eq_true_iff, isSome_boolOfCode_iff, isSome_initialOfCode_iff, and_assoc]

theorem ifCarried_iff {α : Type} {ok : α → Bool} {o : Option α} :
    ifCarried ok o = true ↔ ∀ v, o = some v → ok v = true := by
  cases o <;> simp [ifCarried]

theorem amendInRange_iff {f : AmendFields} :
    amendInRange f = true ↔ (∀ x, f.nominal = some x → -2000000000000 ≤ x ∧ x ≤ 2000000000000)
      ∧ (∀ x, f.halfWidth = some x → 100000 ≤ x ∧ x ≤ 1000000000)
      ∧ (∀ x, f.cls = some x → x ≤ 7) ∧ (∀ x, f.targetFwd = some x → x ≤ 255)
      ∧ (∀ x, f.targetRev = some x → x ≤ 255) ∧ (∀ x, f.datum = some x → x ≤ 1) := by
  simp only [amendInRange, ifCarried_iff, nominalInRange, halfWidthInRange, classInRange, targetInRange,
    Bool.and_eq_true, decide_eq_true_iff, isSome_boolOfCode_iff, and_assoc]

/-! #### PLACE (06 R97, R98) -/

theorem armedState_eq (s : State) :
    armedState s.passOpen = if s.pass.context = none then .armed else .primed := by
  rw [State.passOpen]
  cases s.pass.context <;> rfl

/-- 06 R98: the record of a request whose fields are in range. -/
theorem placeRecord_eq {s : State} {f : PlaceFields} (h : placeInRange f = true) :
    placeRecord f s.passOpen =
      { line := f.line, nominal := f.nominal, halfWidth := f.halfWidth, cls := f.cls
        targetFwd := f.targetFwd, targetRev := f.targetRev, datum := decide (f.datum = 1)
        state := if f.initial = 0 then .dormant
          else if s.pass.context = none then .armed else .primed
        misses := 0, doubles := 0, complete := false, full := false, fwd := none, rev := none
        pending := none } := by
  obtain ⟨-, -, -, -, -, -, hdatum, hinitial⟩ := placeInRange_iff.mp h
  unfold placeRecord
  rw [(boolOfCode_of_le hdatum).1, armedState_eq]
  rcases hinitial with hinitial | hinitial <;> rw [hinitial] <;> rfl

/-- Settles O45: the tests as `servePlace` makes them, each of them said of every record. -/
theorem placeServed : Obligations.PlaceServed := by
  intro s h f ranges fresh order free new q hordered hranges hfresh horder hfree hnew
  obtain ⟨-, hpair⟩ := id hordered
  obtain rfl : ranges = (placeInRange f = true) := propext (hranges.trans placeInRange_iff.symm)
  obtain rfl : fresh = (findLine s.table f.line = none) := propext (hfresh.trans findLine_eq_none_iff.symm)
  obtain rfl : order = (orderHolds s.table f.line f.nominal = true) :=
    propext (horder.trans (orderHolds_iff hpair).symm)
  obtain rfl : free = (windowFree s.table f.line f.nominal f.halfWidth = true) :=
    propext (hfree.trans (windowFree_iff hpair).symm)
  have hrefused {st : Status} (hv : s.servePlace f = s.refuse st) (htaken : st.taken = false) :
      exec (.place h f) s = .next (s.answered h 0x01 st []) :=
    exec_of_refused q (.place f) rfl hv htaken
  have hroom : s.table.length < 2048 → ¬Config.tablePlaces ≤ s.table.length := Nat.not_le.mpr
  refine ⟨fun hr => hrefused ?_ rfl, fun hr hf => hrefused ?_ rfl, fun hr hf hlen => hrefused ?_ rfl,
    fun hr hf hlen ho => hrefused ?_ rfl, fun hr hf hlen ho hw => hrefused ?_ rfl,
    fun hr hf hlen ho hw => ?ok⟩
  case ok =>
    have hserve : s.servePlace f = { state := s.withTable (insertRecord new s.table), status := .ok } := by
      simp [State.servePlace, hr, hf, hroom hlen, ho, hw, placeRecord_eq hr, hnew]
    have hplace : new.line = f.line ∧ new.nominal = f.nominal ∧ new.halfWidth = f.halfWidth :=
      hnew ▸ ⟨rfl, rfl, rfl⟩
    obtain ⟨hl, hn, hh⟩ := hplace
    refine ⟨_, exec_of_taken q (.place f) rfl hserve rfl rfl, insertRecord_perm _ _, ?_⟩
    refine insertRecord_pairwise hpair ?_ (standsIn_of_tests hpair ?_ ?_)
    · rwa [hl, ← findLine_eq_none_iff]
    · rwa [hl, hn]
    · rwa [hl, hn, hh]
  · simp [State.servePlace, hr]
  · simp [State.servePlace, hr, Option.isSome_iff_ne_none.mpr hf]
  · have hfull : Config.tablePlaces ≤ s.table.length := hlen.ge
    simp [State.servePlace, hr, hf, hfull]
  · simp [State.servePlace, hr, hf, hroom hlen, ho]
  · simp [State.servePlace, hr, hf, hroom hlen, ho, hw]

/-! #### AMEND (06 R95, R100, R101) -/

theorem boolOfCode_bind {o : Option Nat} (h : ∀ x, o = some x → x ≤ 1) :
    o.bind boolOfCode = o.map (fun d => decide (d = 1)) := by
  cases o with
  | none => rfl
  | some n => exact (boolOfCode_of_le (h n rfl)).1

theorem LineRecord.windowChanged_eq (r : LineRecord) :
    r.windowChanged =
      if r.state = .taken ∨ r.state = .missed then { r with state := .primed, pending := none } else r := by
  unfold windowChanged
  split <;> simp [*]

/-- 06 R101: the window changes of a record that the open pass has taken or missed. -/
def amendMoves (f : AmendFields) (r : LineRecord) : Bool :=
  decide ((f.nominal.getD r.nominal ≠ r.nominal ∨ f.halfWidth.getD r.halfWidth ≠ r.halfWidth)
    ∧ (r.state = .taken ∨ r.state = .missed))

section
variable {f : AmendFields} {r : LineRecord}

/-- 06 R101: the carried values, and PRIMED for a record that a pass has taken or missed in the window that
was. -/
theorem amendWindow_eq :
    (if (amendSettings f r).nominal = r.nominal ∧ (amendSettings f r).halfWidth = r.halfWidth then
        amendSettings f r
      else (amendSettings f r).windowChanged)
      = { amendSettings f r with
          state := if amendMoves f r then .primed else r.state
          pending := if amendMoves f r then none else r.pending } := by
  have hwindow : ((amendSettings f r).nominal = r.nominal ∧ (amendSettings f r).halfWidth = r.halfWidth)
      ↔ ¬(f.nominal.getD r.nominal ≠ r.nominal ∨ f.halfWidth.getD r.halfWidth ≠ r.halfWidth) := by
    rw [not_or, not_ne_iff, not_ne_iff]
    exact Iff.rfl
  have hstate : (amendSettings f r).state = r.state := rfl
  rw [amendMoves, LineRecord.windowChanged_eq, hstate]
  simp only [hwindow]
  by_cases hw : f.nominal.getD r.nominal ≠ r.nominal ∨ f.halfWidth.getD r.halfWidth ≠ r.halfWidth
  · by_cases hst : r.state = .taken ∨ r.state = .missed
    · simp only [hw, hst, not_true, if_false, if_true, and_self, decide_true]
    · simp only [hw, hst, not_true, if_false, and_false, decide_false, Bool.false_eq_true]
      rfl
  · simp only [hw, not_false_eq_true, if_true, false_and, decide_false, Bool.false_eq_true, if_false]
    rfl

/-- 06 R95, R101: the record after an AMEND. -/
theorem amendApply_eq (hdatum : ∀ x, f.datum = some x → x ≤ 1) :
    amendApply f r =
      { r with
        nominal := f.nominal.getD r.nominal, halfWidth := f.halfWidth.getD r.halfWidth
        cls := f.cls.getD r.cls
        targetFwd := f.targetFwd.getD r.targetFwd, targetRev := f.targetRev.getD r.targetRev
        datum := (f.datum.map (fun d => decide (d = 1))).getD r.datum
        state := if amendMoves f r then .primed else r.state
        pending := if amendMoves f r then none else r.pending
        complete := if f.targetFwd.getD r.targetFwd = r.targetFwd ∧ f.targetRev.getD r.targetRev = r.targetRev
          then r.complete else (amendSettings f r).isComplete } := by
  unfold amendApply
  dsimp only
  rw [amendWindow_eq, ← boolOfCode_bind hdatum]
  by_cases htargets : f.targetFwd.getD r.targetFwd = r.targetFwd ∧ f.targetRev.getD r.targetRev = r.targetRev
  · exact (if_pos htargets).trans (by rw [if_pos htargets]; rfl)
  · exact (if_neg htargets).trans (by rw [if_neg htargets]; rfl)

end

/-- Settles O46: the tests as `serveAmend` makes them, each of them said of every record, and the record that
`amendApply` leaves. -/
theorem amendServed : Obligations.AmendServed := by
  rintro s h f ranges q ⟨-, hpair⟩ hranges
  obtain rfl : ranges = (amendInRange f = true) := propext (hranges.trans amendInRange_iff.symm)
  have hrefused {st : Status} (hv : s.serveAmend f = s.refuse st) (htaken : st.taken = false) :
      exec (.amend h f) s = .next (s.answered h 0x02 st []) :=
    exec_of_refused q (.amend f) rfl hv htaken
  refine ⟨fun hr => hrefused (by simp [State.serveAmend, hr]) rfl, fun hr habsent => hrefused ?absent rfl,
    fun hr r hmem hline x w order free new moved hx hw horder hfree hmoved hnew hsame hreached => ?found⟩
  case absent => simp [State.serveAmend, hr, findLine_eq_none_iff.mpr habsent]
  case found =>
    subst hx hw
    obtain rfl : moved = amendMoves f r := hmoved
    obtain rfl : free = (windowFree s.table f.line (amendSettings f r).nominal
        (amendSettings f r).halfWidth = true) := propext (hfree.trans (hline ▸ (windowFree_iff hpair).symm))
    obtain rfl : order = (ifCarried (orderHolds s.table f.line) f.nominal = true) := by
      refine propext (horder.trans ?_)
      cases hn : f.nominal with
      | none => simp [ifCarried]
      | some x => simpa [ifCarried, hn, hline] using (orderHolds_iff hpair).symm
    have hcomplete : new.complete =
        if f.targetFwd.getD r.targetFwd = r.targetFwd ∧ f.targetRev.getD r.targetRev = r.targetRev then
          r.complete
        else (amendSettings f r).isComplete := by
      split
      next htargets => exact hsame htargets.1 htargets.2
      next htargets =>
        have hcongr : new.isComplete = (amendSettings f r).isComplete := by
          rw [hnew]
          rfl
        rw [← hcongr, Bool.eq_iff_iff, LineRecord.isComplete_iff]
        exact hreached (not_and_or.mp htargets)
    have happly : amendApply f r = new := by
      obtain ⟨-, -, -, -, -, hdatum⟩ := amendInRange_iff.mp hr
      rw [amendApply_eq hdatum, ← hcomplete]
      exact hnew.symm
    have hfind := findLine_of_mem hpair hmem hline
    refine ⟨fun hst => hrefused ?_ rfl, fun hst ho => hrefused ?_ rfl, fun hst ho hw => hrefused ?_ rfl,
      fun hst ho hw => exec_of_taken q (.amend f) rfl ?_ rfl rfl⟩
    · simp [State.serveAmend, hr, hfind, hst]
    · simp [State.serveAmend, hr, hfind, hst, ho]
    · simp [State.serveAmend, hr, hfind, hst, ho, hw]
    · simp [State.serve, State.serveAmend, hr, hfind, hst, ho, hw, happly, replaceLine]

end Sys2Proof.Machine
end

/-! ### Requests that name one record, and CLASS_OP (06 R96, R99, R102 to R105, R113) -/

section
namespace Sys2Proof.Machine

/-! #### What a request does to one record (06 section 6.4) -/

namespace LineRecord

variable {r : LineRecord} {o : Bool}

theorem armEffect_of_refused (h : r.state = .retired ∨ r.full = true) : r.armEffect o = .refused := by
  unfold armEffect
  rcases h with h | h <;> simp [h]

theorem armEffect_of_dormant (hfull : r.full = false) (h : r.state = .dormant) :
    r.armEffect o = .changed { r with state := armedState o } := by
  simp [armEffect, hfull, h]

theorem armEffect_of_other (hfull : r.full = false) (hd : r.state ≠ .dormant) (hr : r.state ≠ .retired) :
    r.armEffect o = .same := by
  cases h : r.state <;> simp_all [armEffect]

theorem disarmEffect_of_other (hr : r.state ≠ .retired) (hd : r.state ≠ .dormant) :
    r.disarmEffect = .changed { r with state := .dormant, pending := none } := by
  cases h : r.state <;> simp_all [disarmEffect]

theorem retireEffect_of_other (hr : r.state ≠ .retired) :
    r.retireEffect = .changed { r with state := .retired, pending := none } := by
  cases h : r.state <;> simp_all [retireEffect]

theorem dropEffect_of_refused (h : r.state = .armed ∨ r.state = .taken ∨ r.state = .missed) :
    r.dropEffect = .refused := by
  rcases h with h | h | h <;> simp [dropEffect, h]

theorem dropEffect_of_removed (h : r.state = .dormant ∨ r.state = .primed ∨ r.state = .retired) :
    r.dropEffect = .removed := by
  rcases h with h | h | h <;> simp [dropEffect, h]

theorem clearEffect_of_refused (h : r.state = .taken ∨ r.state = .missed ∨ r.state = .retired) :
    r.clearEffect = .refused := by
  rcases h with h | h | h <;> simp [clearEffect, h]

theorem clearEffect_of_other (h : r.state = .dormant ∨ r.state = .primed ∨ r.state = .armed) :
    r.clearEffect = if r.cleared = r then .same else .changed r.cleared := by
  rcases h with h | h | h <;> simp [clearEffect, h]

end LineRecord

/-! #### The answers -/

section
variable {s : State} {h : Header} {i : Instr} {line : Int} {r r' : LineRecord}
  {eff : LineRecord → RecordEffect}

theorem exec_record_absent (q : s.Ready h) (req : Request) (hi : i.request = some (h, req))
    (hv : s.serve req = s.serveRecord line eff) (habsent : ∀ r ∈ s.table, r.line ≠ line) :
    exec i s = .next (s.answered h req.code .notFound []) :=
  exec_of_refused q req hi (by rw [hv, State.serveRecord, findLine_eq_none_iff.mpr habsent]) rfl

theorem exec_record_refused (q : s.Ready h) (req : Request) (hi : i.request = some (h, req))
    (hv : s.serve req = s.serveRecord line eff) (hfind : findLine s.table line = some r)
    (he : eff r = .refused) : exec i s = .next (s.answered h req.code .state []) :=
  exec_of_refused q req hi (by simp only [hv, State.serveRecord, hfind, he]) rfl

theorem exec_record_same (q : s.Ready h) (req : Request) (hi : i.request = some (h, req))
    (hv : s.serve req = s.serveRecord line eff) (hfind : findLine s.table line = some r)
    (he : eff r = .same) : exec i s = .next (s.answered h req.code .ok []) :=
  exec_of_taken q req hi (by simp only [hv, State.serveRecord, hfind, he]) rfl rfl

theorem exec_record_changed (q : s.Ready h) (req : Request) (hi : i.request = some (h, req))
    (hv : s.serve req = s.serveRecord line eff) (hfind : findLine s.table line = some r)
    (he : eff r = .changed r') :
    exec i s = .next ((s.withTable (replaceLine s.table line r')).answered h req.code .ok []) :=
  exec_of_taken q req hi (by simp only [hv, State.serveRecord, hfind, he]) rfl rfl

theorem exec_record_removed (q : s.Ready h) (req : Request) (hi : i.request = some (h, req))
    (hv : s.serve req = s.serveRecord line eff) (hfind : findLine s.table line = some r)
    (he : eff r = .removed) :
    exec i s = .next ((s.withTable (removeLine s.table line)).answered h req.code .ok []) :=
  exec_of_taken q req hi (by simp only [hv, State.serveRecord, hfind, he]) rfl rfl

end

/-- Settles O47: each request by its effect on the record that it names. -/
theorem recordRequestsServed : Obligations.RecordRequestsServed := by
  rintro s h line q ⟨-, hpair⟩
  refine ⟨fun habsent => ⟨?_, ?_, ?_, ?_, ?_⟩, fun r hr hline put hput => ?_⟩
  · exact exec_record_absent q (.arm line) rfl rfl habsent
  · exact exec_record_absent q (.disarm line) rfl rfl habsent
  · exact exec_record_absent q (.retire line) rfl rfl habsent
  · exact exec_record_absent q (.drop line) rfl rfl habsent
  · exact exec_record_absent q (.clear line) rfl rfl habsent
  have hfind := findLine_of_mem hpair hr hline
  obtain rfl : put = fun r' => s.withTable (replaceLine s.table line r') := funext hput
  have hremove : removeLine s.table line = s.table.filter (fun q => q.line ≠ line) := by
    refine List.filter_congr fun a _ => ?_
    rw [decide_not]
    rfl
  refine ⟨fun hst => ?_, fun hfull hst => ?_, fun hfull hd hst => ?_, fun hst => ?_, fun hst => ?_,
    fun hst hd => ?_, fun hst => ?_, fun hst => ?_, fun hst => ?_, fun hst => ?_, fun hst => ?_,
    fun hst => ?_⟩
  · exact exec_record_refused q (.arm line) rfl rfl hfind (LineRecord.armEffect_of_refused hst)
  · rw [← armedState_eq]
    exact exec_record_changed q (.arm line) rfl rfl hfind (LineRecord.armEffect_of_dormant hfull hst)
  · exact exec_record_same q (.arm line) rfl rfl hfind (LineRecord.armEffect_of_other hfull hd hst)
  · exact exec_record_refused q (.disarm line) rfl rfl hfind (by rw [LineRecord.disarmEffect, hst])
  · exact exec_record_same q (.disarm line) rfl rfl hfind (by rw [LineRecord.disarmEffect, hst])
  · exact exec_record_changed q (.disarm line) rfl rfl hfind (LineRecord.disarmEffect_of_other hst hd)
  · exact exec_record_same q (.retire line) rfl rfl hfind (by rw [LineRecord.retireEffect, hst])
  · exact exec_record_changed q (.retire line) rfl rfl hfind (LineRecord.retireEffect_of_other hst)
  · exact exec_record_refused q (.drop line) rfl rfl hfind (LineRecord.dropEffect_of_refused hst)
  · rw [← hremove]
    exact exec_record_removed q (.drop line) rfl rfl hfind (LineRecord.dropEffect_of_removed hst)
  · exact exec_record_refused q (.clear line) rfl rfl hfind (LineRecord.clearEffect_of_refused hst)
  · have heff := LineRecord.clearEffect_of_other hst
    by_cases hsame : r.cleared = r
    · have hself : s.withTable (replaceLine s.table line r.cleared) = s := by
        rw [hsame, ← hline, replaceLine_self hpair hr]
        rfl
      refine (exec_record_same q (.clear line) rfl rfl hfind (heff.trans (if_pos hsame))).trans ?_
      exact congrArg (fun t : State => Host.Outcome.next (t.answered h 0x07 .ok [])) hself.symm
    · exact exec_record_changed q (.clear line) rfl rfl hfind (heff.trans (if_neg hsame))

/-! #### CLASS_OP (06 R113) -/

/-- What an effect that is applied leaves of the record: another, or none. -/
def RecordEffect.applied : RecordEffect → Option (Option LineRecord)
  | .changed r => some (some r)
  | .removed => some none
  | .refused | .same => none

theorem RecordEffect.applied_isSome (e : RecordEffect) : e.applied.isSome = e.applies := by
  cases e <;> rfl

theorem RecordEffect.applied_getD (e : RecordEffect) (r : LineRecord) :
    e.applied.getD (some r) = e.leaves r := by
  cases e <;> rfl

/-- 06 R113: the answer, by what the operation makes of each record that it is applied to. -/
theorem exec_classOp {s : State} {h : Header} {i : Instr} {mask op : Nat} {eff : LineRecord → RecordEffect}
    {g : LineRecord → Option (Option LineRecord)} (q : s.Ready h)
    (hi : i.request = some (h, .classOp mask op)) (heff : classEffect s.passOpen op = some eff)
    (hg : ∀ r, (eff r).applied = g r) {selected applied : Nat}
    (hselected : selected = (s.table.filter (fun r => mask.testBit r.cls)).length)
    (happlied : applied = (s.table.filter (fun r => mask.testBit r.cls && (g r).isSome)).length) :
    applied ≤ selected
      ∧ exec i s = .next
        ((s.withTable (s.table.filterMap (fun r =>
          if mask.testBit r.cls then (g r).getD (some r) else some r))).answered h 0x0B .ok
          (sentU 2 selected ++ sentU 2 applied ++ sentU 2 (selected - applied))) := by
  obtain rfl : (fun r => (eff r).applied) = g := funext hg
  simp only [RecordEffect.applied_isSome] at happlied
  simp only [RecordEffect.applied_getD]
  refine ⟨?_, exec_of_taken q (.classOp mask op) hi ?_ rfl rfl⟩
  · have hsplit : s.table.filter (fun r => mask.testBit r.cls && (eff r).applies)
        = (s.table.filter (fun r => mask.testBit r.cls)).filter (fun r => (eff r).applies) := by
      rw [List.filter_filter]
      exact List.filter_congr fun r _ => Bool.and_comm _ _
    rw [hselected, happlied, hsplit]
    exact List.length_filter_le _ _
  · simp only [State.serve, State.serveClassOp, heff, hselected, happlied]
    rfl

namespace LineRecord

variable (r : LineRecord)

theorem cleared_eq_iff :
    r.cleared = r ↔ ¬(r.fwd.isSome = true ∨ r.rev.isSome = true ∨ r.misses ≠ 0 ∨ r.doubles ≠ 0
      ∨ r.complete = true ∨ r.full = true) := by
  obtain ⟨_, _, _, _, _, _, _, _, misses, doubles, complete, full, fwd, rev, _⟩ := r
  simp only [cleared, mk.injEq, true_and, and_true, not_or, not_ne_iff, Bool.not_eq_true,
    Option.isSome_eq_false_iff, Option.isNone_iff_eq_none]
  exact ⟨fun ⟨hm, hd, hc, hf, hfwd, hrev⟩ => ⟨hfwd.symm, hrev.symm, hm.symm, hd.symm, hc.symm, hf.symm⟩,
    fun ⟨hfwd, hrev, hm, hd, hc, hf⟩ => ⟨hm.symm, hd.symm, hc.symm, hf.symm, hfwd.symm, hrev.symm⟩⟩

theorem armEffect_applied (o : Bool) :
    (r.armEffect o).applied =
      if r.state = .dormant ∧ r.full = false then some (some { r with state := armedState o }) else none := by
  unfold armEffect
  cases r.full <;> cases r.state <;> rfl

theorem disarmEffect_applied :
    r.disarmEffect.applied =
      if r.state ≠ .dormant ∧ r.state ≠ .retired then
        some (some { r with state := .dormant, pending := none })
      else none := by
  unfold disarmEffect
  cases r.state <;> rfl

theorem retireEffect_applied :
    r.retireEffect.applied =
      if r.state ≠ .retired then some (some { r with state := .retired, pending := none }) else none := by
  unfold retireEffect
  cases r.state <;> rfl

theorem dropEffect_applied :
    r.dropEffect.applied =
      if r.state = .dormant ∨ r.state = .primed ∨ r.state = .retired then some none else none := by
  unfold dropEffect
  cases r.state <;> rfl

theorem clearEffect_applied :
    r.clearEffect.applied =
      if (r.state = .dormant ∨ r.state = .primed ∨ r.state = .armed)
          ∧ (r.fwd.isSome = true ∨ r.rev.isSome = true ∨ r.misses ≠ 0 ∨ r.doubles ≠ 0
            ∨ r.complete = true ∨ r.full = true) then
        some (some r.cleared)
      else none := by
  by_cases hst : r.state = .dormant ∨ r.state = .primed ∨ r.state = .armed
  · rw [clearEffect_of_other hst]
    by_cases hsame : r.cleared = r
    · rw [if_pos hsame, if_neg (fun h => r.cleared_eq_iff.mp hsame h.2)]
      rfl
    · rw [if_neg hsame, if_pos ⟨hst, not_not.mp (mt r.cleared_eq_iff.mpr hsame)⟩]
      rfl
  · rw [if_neg (fun h => hst h.1), clearEffect_of_refused]
    · rfl
    · cases h : r.state <;> simp_all

end LineRecord

/-- Settles O48: the five operations, each by its effect on one record. -/
theorem classOpApplies : Obligations.ClassOpApplies := by
  intro s h mask q p hp selected applied hselected happlied
  simp only [List.mem_cons, List.not_mem_nil, or_false] at hp
  rcases hp with rfl | rfl | rfl | rfl | rfl
  · refine exec_classOp (op := 0) q rfl rfl (fun r => ?_) hselected happlied
    rw [LineRecord.armEffect_applied, armedState_eq]
  · exact exec_classOp (op := 1) q rfl rfl LineRecord.disarmEffect_applied hselected happlied
  · exact exec_classOp (op := 2) q rfl rfl LineRecord.retireEffect_applied hselected happlied
  · exact exec_classOp (op := 3) q rfl rfl LineRecord.dropEffect_applied hselected happlied
  · exact exec_classOp (op := 4) q rfl rfl LineRecord.clearEffect_applied hselected happlied

end Sys2Proof.Machine
end

/-! ### READ, FIND and STEP (06 R109 to R111, 11 section 11.4) -/

section
namespace Sys2Proof.Machine

/-! #### What READ sends of a record (06 R109, 11 section 11.4) -/

theorem boolCode_eq (b : Bool) : boolCode b = if b then 1 else 0 := by cases b <;> rfl

theorem LineRecord.marksCode_eq (r : LineRecord) :
    r.marksCode = (if r.complete then 1 else 0) + (if r.full then 2 else 0) := by
  simp only [marksCode, boolCode_eq, mul_ite, mul_one, mul_zero]

theorem Half.meanY_getD (q : Half) :
    q.meanY.getD 0 = if q.ny = 0 then 0 else roundDiv q.sumY q.ny := by
  unfold meanY
  split <;> rfl

theorem isSome_bind_meanY {o : Option Half} :
    (o.bind Half.meanY).isSome = true ↔ ∃ q, o = some q ∧ q.ny ≠ 0 := by
  cases o with
  | none => simp
  | some q => by_cases h : q.ny = 0 <;> simp [Half.meanY, h]

theorem LineRecord.fwdMinusRev_of_some {r : LineRecord} {a b : Half} (ha : r.fwd = some a)
    (hb : r.rev = some b) : r.fwdMinusRev = some (roundDiv a.sumX a.n - roundDiv b.sumX b.n) := by
  rw [fwdMinusRev, ha, hb]
  rfl

theorem LineRecord.fwdMinusRev_of_none {r : LineRecord} (h : r.fwd = none ∨ r.rev = none) :
    r.fwdMinusRev = none := by
  rw [fwdMinusRev]
  rcases h with h | h
  · rw [h]
  · rw [h]
    cases r.fwd <;> rfl

theorem LineRecord.isSome_fwdMinusRev {r : LineRecord} :
    r.fwdMinusRev.isSome = true ↔ ¬(r.fwd = none ∨ r.rev = none) := by
  cases hf : r.fwd <;> cases hr : r.rev <;> simp [fwdMinusRev, hf, hr]

/-- 11 section 11.4: the presence byte, bit by bit. -/
theorem LineRecord.presence_eq (r : LineRecord) [Decidable (∃ q, r.fwd = some q ∧ q.ny ≠ 0)]
    [Decidable (∃ q, r.rev = some q ∧ q.ny ≠ 0)] :
    r.presence = (if r.fwd = none then 0 else 1) + (if r.rev = none then 0 else 2)
      + (if r.pending = none then 0 else 4)
      + (if ∃ q, r.fwd = some q ∧ q.ny ≠ 0 then 8 else 0)
      + (if ∃ q, r.rev = some q ∧ q.ny ≠ 0 then 16 else 0)
      + (if r.fwd = none ∨ r.rev = none then 0 else 32) := by
  have hpresent {α : Type} [DecidableEq (Option α)] (n : Nat) (o : Option α) :
      (if o.isSome = true then n else 0) = if o = none then 0 else n := by
    cases o <;> simp
  unfold presence
  simp only [boolCode_eq, mul_ite, mul_one, mul_zero, isSome_bind_meanY, isSome_fwdMinusRev, ite_not,
    hpresent]

/-! #### The nearest record on each side (06 R110) -/

section
variable {t : List LineRecord} {o : Option LineRecord} {x : Int}

/-- 06 R110: the record with the greatest upper edge below a position. -/
theorem recordBelow_eq (ht : t.Pairwise LineRecord.before)
    (hnone : o = none → ∀ r ∈ t, ¬r.nominal + (r.halfWidth : Int) < x)
    (hsome : ∀ r, o = some r → r ∈ t ∧ r.nominal + (r.halfWidth : Int) < x
      ∧ ∀ q ∈ t, q.nominal + (q.halfWidth : Int) < x →
        q.nominal + (q.halfWidth : Int) ≤ r.nominal + (r.halfWidth : Int)) :
    recordBelow t x = o := by
  cases o with
  | none =>
    have hempty : t.filter (fun r => decide (r.upper < x)) = [] :=
      List.filter_eq_nil_iff.mpr fun r hr h => hnone rfl r hr (of_decide_eq_true h)
    rw [recordBelow, hempty, List.getLast?_nil]
  | some r =>
    obtain ⟨hr, hx, hmax⟩ := hsome r rfl
    refine getLast?_of_greatest ht hr (decide_eq_true hx) fun q hq hqx => ?_
    have hle := hmax q hq (of_decide_eq_true hqx)
    by_contra hlt
    obtain ⟨-, -, hapart⟩ := before_of_line_lt ht hr hq (not_le.mp hlt)
    omega

/-- 06 R110: the record with the least lower edge above a position. -/
theorem recordAbove_eq (ht : t.Pairwise LineRecord.before)
    (hnone : o = none → ∀ r ∈ t, ¬x < r.nominal - (r.halfWidth : Int))
    (hsome : ∀ r, o = some r → r ∈ t ∧ x < r.nominal - (r.halfWidth : Int)
      ∧ ∀ q ∈ t, x < q.nominal - (q.halfWidth : Int) →
        r.nominal - (r.halfWidth : Int) ≤ q.nominal - (q.halfWidth : Int)) :
    recordAbove t x = o := by
  cases o with
  | none => exact List.find?_eq_none.mpr fun r hr h => hnone rfl r hr (of_decide_eq_true h)
  | some r =>
    obtain ⟨hr, hx, hmin⟩ := hsome r rfl
    refine find?_of_least ht hr (decide_eq_true hx) fun q hq hqx => ?_
    have hle := hmin q hq (of_decide_eq_true hqx)
    by_contra hlt
    obtain ⟨-, -, hapart⟩ := before_of_line_lt ht hq hr (not_le.mp hlt)
    omega

end

/-! #### The walk (06 R111) -/

/-- The records a walk visits: those of a selected class, beyond the line number where the mode says so. -/
def stepVisits (f : StepFields) (r : LineRecord) : Bool :=
  classSelected f.mask r && decide ((f.mode = 2 → f.line < r.line) ∧ (f.mode = 3 → r.line < f.line))

theorem stepVisits_iff {f : StepFields} {r : LineRecord} :
    stepVisits f r = true ↔ f.mask.testBit r.cls = true
      ∧ (f.mode = 2 → f.line < r.line) ∧ (f.mode = 3 → r.line < f.line) := by
  rw [stepVisits, Bool.and_eq_true, decide_eq_true_iff]
  rfl

/-- 06 R111: modes 0 and 2 take the lowest record they visit, modes 1 and 3 the highest. -/
theorem stepFind_eq (t : List LineRecord) {f : StepFields} (hmode : f.mode ≤ 3) :
    stepFind t f.mode f.line f.mask =
      some (if f.mode = 0 ∨ f.mode = 2 then t.find? (stepVisits f)
        else (t.filter (stepVisits f)).getLast?) := by
  obtain ⟨mode, line, mask⟩ := f
  have hcases : mode = 0 ∨ mode = 1 ∨ mode = 2 ∨ mode = 3 := by
    dsimp only at hmode
    omega
  rcases hcases with rfl | rfl | rfl | rfl
  · have hvisits : stepVisits ⟨0, line, mask⟩ = classSelected mask := funext fun r => by simp [stepVisits]
    simp [stepFind, hvisits, List.head?_filter]
  · have hvisits : stepVisits ⟨1, line, mask⟩ = classSelected mask := funext fun r => by simp [stepVisits]
    simp [stepFind, hvisits]
  · have hvisits : stepVisits ⟨2, line, mask⟩ = fun r => classSelected mask r && decide (line < r.line) :=
      funext fun r => by simp [stepVisits]
    simp [stepFind, hvisits, List.find?_filter]
  · have hvisits : stepVisits ⟨3, line, mask⟩ = fun r => decide (r.line < line) && classSelected mask r :=
      funext fun r => by simp [stepVisits, Bool.and_comm]
    simp [stepFind, hvisits, List.filter_filter]

theorem stepFind_of_other (t : List LineRecord) {mode : Nat} (line : Int) (mask : Nat) (h : 3 < mode) :
    stepFind t mode line mask = none := by
  unfold stepFind
  split
  iterate 4 omega
  rfl

theorem halfN_eq (o : Option Half) : halfN o = (o.map Half.n).getD 0 := by
  cases o <;> rfl

theorem stepRange_iff {f : StepFields} :
    ((f.mode == 2 || f.mode == 3) && !lineInRange f.line) = true
      ↔ (f.mode = 2 ∨ f.mode = 3) ∧ (f.line < -1000000 ∨ 1000000 < f.line) := by
  simp [lineInRange]

/-! #### The answers -/

section
variable {s : State} {x : Int}

theorem State.serveFind_of_hit {r : LineRecord} (h : findWindow s.table x = some r) :
    (s.serveFind x).data = sentB 1 ++ foundBlock x r ++ List.replicate 22 0 := by
  simp only [State.serveFind, h, Option.isSome_some, if_true]
  rw [List.append_assoc]
  rfl

theorem State.serveFind_of_miss (h : findWindow s.table x = none) :
    (s.serveFind x).data = List.replicate 26 0 ++ sentOpt 10 sideBlock (recordBelow s.table x)
      ++ sentOpt 10 sideBlock (recordAbove s.table x) := by
  simp only [State.serveFind, h, Option.isSome_none, Bool.false_eq_true, if_false]
  rfl

theorem State.serveStep_of_found {f : StepFields} {o : Option LineRecord}
    (hrange : ((f.mode == 2 || f.mode == 3) && !lineInRange f.line) = false)
    (h : stepFind s.table f.mode f.line f.mask = some o) :
    s.serveStep f =
      o.elim (s.refuse .notFound) (fun r => { state := s, status := .ok, data := r.stepData }) := by
  rw [State.serveStep, hrange, if_neg Bool.false_ne_true, h]
  cases o <;> rfl

end

/-- Settles O50: the blocks of a READ reply field by field, and the lookups' records by what FIND and STEP ask
of them. -/
theorem lookupsNameTheRecord : Obligations.LookupsNameTheRecord := by
  rintro s h q ⟨-, hpair⟩
  have hfind {x : Int} {data : Bytes} (hdata : (s.serveFind x).data = data) :
      exec (.find h x) s = .next (s.answered h 0x09 .ok data) :=
    exec_ok_of_reads q (r := .find x) rfl (s.reads_serveFind x) rfl hdata
  refine ⟨fun line habsent => ?absent, fun r hr => ⟨_, by simp, ?read, rfl⟩, fun nominal => ⟨rfl, ?half⟩,
    ⟨rfl, fun p => ?pending⟩, fun r => ⟨r.presence_eq, fun a b => LineRecord.fwdMinusRev_of_some,
      LineRecord.fwdMinusRev_of_none⟩, fun x below above hout hbnone hbelow hanone habove => hfind ?outside,
    fun r x hr hlow hhigh => hfind ?inside, fun f => ⟨fun hrange => ?range, ?walk⟩⟩
  case absent =>
    refine exec_of_refused q (.read line) rfl ?_ rfl
    simp only [State.serve, State.serveRead, findLine_eq_none_iff.mpr habsent]
  case read =>
    have hserve : s.serve (.read r.line) = { state := s, status := .ok, data := r.readData } := by
      simp only [State.serve, State.serveRead, findLine_of_mem hpair hr rfl]
    refine (exec_of_taken q (.read r.line) rfl hserve rfl rfl).trans ?_
    rw [← LineRecord.marksCode_eq]
    rfl
  case half =>
    rintro b meanX meanY rfl hY
    rw [hY, ← Half.meanY_getD]
    rfl
  case pending =>
    simp only [pendingBlock, Marks.code, sentFlag, boolCode_eq, mul_ite, mul_one, mul_zero]
    cases p.direction <;> rfl
  case outside =>
    have hmiss : findWindow s.table x = none := findWindow_of_none fun r hr hx => by
      have := LineRecord.inWindow_iff.mp hx
      have := hout r hr
      omega
    rw [State.serveFind_of_miss hmiss, recordBelow_eq hpair hbnone hbelow, recordAbove_eq hpair hanone habove]
    rfl
  case inside =>
    rw [State.serveFind_of_hit (findWindow_of_mem hpair hr (LineRecord.inWindow_iff.mpr ⟨hlow, hhigh⟩))]
    simp only [foundBlock, List.append_assoc]
  case range =>
    refine exec_of_refused q (.stepTable f) rfl ?_ rfl
    by_cases hr : ((f.mode == 2 || f.mode == 3) && !lineInRange f.line) = true
    · exact if_pos hr
    · have hmode : 3 < f.mode := hrange.resolve_right (mt stepRange_iff.mpr hr)
      exact (if_neg hr).trans (by rw [stepFind_of_other _ _ _ hmode])
  case walk =>
    intro hmode hline visited hvisited
    have hrange : ((f.mode == 2 || f.mode == 3) && !lineInRange f.line) = false := by
      rw [Bool.eq_false_iff, ne_eq, stepRange_iff]
      omega
    have hserve := State.serveStep_of_found hrange (stepFind_eq s.table hmode)
    have hvisits (r : LineRecord) : visited r ↔ r ∈ s.table ∧ stepVisits f r = true := by
      rw [hvisited, stepVisits_iff]
    simp only [hvisits]
    refine ⟨fun hnone => ?_, fun r ⟨hr, hv⟩ hleast hgreatest => ?_⟩
    · rw [List.find?_eq_none.mpr fun r hr hv => hnone r ⟨hr, hv⟩,
        List.filter_eq_nil_iff.mpr fun r hr hv => hnone r ⟨hr, hv⟩, List.getLast?_nil, ite_self] at hserve
      exact exec_of_refused q (.stepTable f) rfl hserve rfl
    · have hfound : (if f.mode = 0 ∨ f.mode = 2 then s.table.find? (stepVisits f)
          else (s.table.filter (stepVisits f)).getLast?) = some r := by
        split
        next hlow => exact find?_of_least hpair hr hv fun p hp hpv => hleast hlow p ⟨hp, hpv⟩
        next hlow => exact getLast?_of_greatest hpair hr hv fun p hp hpv => hgreatest (by omega) p ⟨hp, hpv⟩
      rw [hfound] at hserve
      refine (exec_of_taken q (.stepTable f) rfl hserve rfl rfl).trans ?_
      rw [LineRecord.stepData, halfN_eq, halfN_eq]
      rfl

end Sys2Proof.Machine
end

/-! ### A check that opens a pass (06 R96, 07 R120, R131) -/

section
namespace Sys2Proof.Machine

/-! #### The records as a pass opens (06 R96, 07 R131) -/

namespace LineRecord

variable (r : LineRecord)

theorem joinPass_eq : r.joinPass = if r.state = .primed then { r with state := .armed } else r := by
  unfold joinPass
  split <;> simp [*]

theorem crossed_iff {d : Direction} {xStart xFar : Int} :
    r.crossed d xStart xFar = true ↔
      (d = .fwd ∧ xStart ≤ r.nominal - (r.halfWidth : Int) ∧ r.nominal + (r.halfWidth : Int) < xFar)
        ∨ (d = .rev ∧ r.nominal + (r.halfWidth : Int) ≤ xStart
          ∧ xFar < r.nominal - (r.halfWidth : Int)) := by
  cases d with
  | fwd =>
    simp only [crossed, Bool.and_eq_true, decide_eq_true_iff, true_and, reduceCtorEq, false_and, or_false]
    rfl
  | rev =>
    simp only [crossed, Bool.and_eq_true, decide_eq_true_iff, true_and, reduceCtorEq, false_and, false_or]
    rfl

theorem markCrossed_eq (d : Direction) (xStart xFar : Int) :
    r.markCrossed d xStart xFar = crossingMark d xStart xFar r := by
  simp only [crossingMark, ← crossed_iff]
  unfold markCrossed
  split
  next hst => simp only [hst, true_and]
  all_goals simp [*]

end LineRecord

/-! #### The check (07 R116) -/

section
variable {s : State}

theorem State.position_xValid (s : State) : s.position.xValid = s.xReferenced := rfl

theorem State.advanceFar_of_closed (h : s.pass.context = none) (x : Int) : s.advanceFar x = s := by
  rw [State.advanceFar, h]

theorem State.settleTest_of_closed (h : s.pass.context = none) (dx : Int) : s.settleTest dx = s := by
  rw [State.settleTest, h]

/-- A check with a ΔX and no open pass. -/
theorem State.runCheck_of_closed (hvalid : s.xReferenced = true) (h : s.pass.context = none) {prev : Int}
    (hprev : s.pass.prevX = some prev) :
    s.runCheck = (s.autoOpen s.position.x prev).setPrevX (some s.position.x) := by
  simp only [State.runCheck, State.position_xValid, hvalid, if_true, State.advanceFar_of_closed h, hprev,
    State.settleTest_of_closed h]

theorem State.autoOpen_of_start {x prev : Int} (hmode : s.pass.mode = .auto) (hclosed : s.pass.context = none)
    (hidle : s.reref.wait = none) (hthr : s.pass.startThr ≤ (x - prev).natAbs) :
    s.autoOpen x prev
      = (s.openPass (if 0 < x - prev then .fwd else .rev) .auto prev x).markCrossings := by
  have hopen : s.passOpen = false := by rw [State.passOpen, hclosed]; rfl
  have hwait : s.waiting = false := by rw [State.waiting, hidle]; rfl
  exact if_pos ⟨hmode, hopen, hwait, hthr⟩

/-- CHECK, once the age has moved. -/
theorem exec_check_of_due (hdue : s.arrival.check = true) (hage : s.arrival.ageTick = false) :
    exec .check s = .next (s.withArrival { s.arrival with check := false }).runCheck := by
  simp only [exec, execCheck, State.takeCheck, State.takeAgeTick, hdue, hage, if_true, Bool.false_eq_true,
    if_false]

/-- 07 R120, R131: the records and the pass of an opening. -/
theorem State.openPass_markCrossings (s : State) (d : Direction) (origin : PassMode) (xStart xFar : Int) :
    (s.openPass d origin xStart xFar).markCrossings =
      (s.withPass
        { s.pass with
          number := s.pass.number + 1
          context := some
            { number := s.pass.number + 1, direction := d, origin := origin, opening := s.newestIndex
              xStart := xStart, xFar := xFar, settleRun := 0, counters := .zero } }).withTable
        (s.table.map (fun r => crossingMark d xStart xFar
          (if r.state = .primed then { r with state := .armed } else r))) := by
  simp only [← LineRecord.joinPass_eq, ← LineRecord.markCrossed_eq]
  exact congrArg (State.withTable _)
    (List.map_map (g := LineRecord.markCrossed d xStart xFar) (f := LineRecord.joinPass) (l := s.table))

/-- 07 R120: the check that opens a pass takes this X as the previous check X. -/
theorem State.runCheck_of_start {prev : Int} {k : Nat} (hnewest : s.newest = some k)
    (hvalid : s.xReferenced = true) (hclosed : s.pass.context = none) (hidle : s.reref.wait = none)
    (hmode : s.pass.mode = .auto) (hprev : s.pass.prevX = some prev)
    (hthr : s.pass.startThr ≤ (s.position.x - prev).natAbs) :
    s.runCheck =
      (s.withPass
        { s.pass with
          number := s.pass.number + 1
          prevX := some s.position.x
          context := some
            { number := s.pass.number + 1
              direction := if 0 < s.position.x - prev then .fwd else .rev
              origin := .auto, opening := k, xStart := prev, xFar := s.position.x, settleRun := 0
              counters := .zero } }).withTable
        (s.table.map (fun r => crossingMark (if 0 < s.position.x - prev then .fwd else .rev) prev s.position.x
          (if r.state = .primed then { r with state := .armed } else r))) := by
  rw [State.runCheck_of_closed hvalid hclosed hprev, State.autoOpen_of_start hmode hclosed hidle hthr,
    State.openPass_markCrossings, State.newestIndex_of_some hnewest]
  rfl

end

/-- Settles O15: without a pass the check neither moves X_far nor settles; it opens the pass and takes this X
as the previous check X. -/
theorem checkOpensPass : Obligations.CheckOpensPass := by
  intro s prev k hdue hage hnewest hxl hxr hclosed hidle hmode hprev hthr d hd
  subst hd
  have hvalid : s.xReferenced = true := by rw [State.xReferenced, hxl, hxr]; rfl
  rw [exec_check_of_due hdue hage]
  exact congrArg Host.Outcome.next (State.runCheck_of_start
    (s := s.withArrival { s.arrival with check := false }) hnewest hvalid hclosed hidle hmode hprev hthr)

end Sys2Proof.Machine
end

/-! ### An arrival that takes XL or XR out of reference (06 R108, 07 R121, R123, R124) -/

section
namespace Sys2Proof.Machine

/-! #### The channel (02 R19, R24, R25, R27) -/

/-- 02 R24: an extrapolation that leaves the channel without reference reports the loss. -/
theorem Counter.lost_of_coast {c : Counter} {run : Nat} (h : (c.coast run).counter.state.referenced = false) :
    (c.coast run).lost = true := by
  unfold coast at h ⊢
  dsimp only at h ⊢
  split at h
  · cases h
  next hout => rw [if_neg hout]; rfl

/-- 02 R27: a channel that goes out of reference raises its LOST event. -/
theorem Counter.lost_of_arrive {c : Counter} {φ amp : Nat} (hc : c.state.referenced = true)
    (h : (c.arrive φ amp).counter.state.referenced = false) : (c.arrive φ amp).lost = true := by
  have hstate : c.state = .tracking ∨ c.state = .coasting := by
    cases hs : c.state <;> rw [hs] at hc <;> simp [ChannelState.referenced] at hc ⊢
  by_cases hamp : c.floor ≤ amp
  · cases hu : c.unwrap φ with
    | passes p step =>
      obtain ⟨-, htracking, hcoasting⟩ := Counter.arrive_of_passes hamp hu
      rcases hstate with hs | hs
      · rw [htracking hs] at h
        cases h
      · rw [hcoasting hs] at h
        cases h
    | slip p =>
      obtain ⟨-, htracking, hcoasting⟩ := Counter.arrive_of_slip hamp hu
      rcases hstate with hs | hs
      · rw [htracking hs]
        rfl
      · rw [hcoasting hs]
        rfl
  · obtain ⟨-, htracking, hcoasting⟩ := Counter.arrive_of_weak (c := c) (φ := φ) (not_le.mp hamp)
    rcases hstate with hs | hs
    · rw [htracking hs] at h ⊢
      exact Counter.lost_of_coast h
    · rw [hcoasting hs] at h ⊢
      split at h
      next hrun =>
        rw [if_pos hrun]
        exact Counter.lost_of_coast h
      next hrun =>
        rw [if_neg hrun]
        rfl

theorem ChannelUnit.lost_of_arrive {u : ChannelUnit} {p : Pair} (hu : u.counter.state.referenced = true)
    (h : (u.arrive p).unit.counter.state.referenced = false) : (u.arrive p).lost = true := by
  have hon : u.counter.state ≠ .off := fun hoff => by simp [hoff, ChannelState.referenced] at hu
  rw [ChannelUnit.arrive_of_on hon] at h
  rw [(u.arrive_reports p).1]
  exact Counter.lost_of_arrive hu h

/-! #### The pass (07 R121, R123, R124) -/

section
variable {s : State} {c : PassContext}

/-- 06 R108, 07 R123, R124: the pass monitor and the table after an ABORTED close. -/
theorem State.closeAborted_pass (hc : s.pass.context = some c) (r : PassReason) :
    (s.closeAborted r).pass =
      { s.pass with context := none, last := some (c.summary s.newestIndex .aborted r 0 0) } := by
  rw [State.closeAborted, State.passOpen, hc, Option.isSome_some, if_pos rfl, State.discardPass, hc]
  rfl

theorem referenceLost_of_lost {before after : State} {ch : Channel} (hch : ch = .xl ∨ ch = .xr)
    (h : before.referenced ch = true) (h' : after.referenced ch = false) :
    referenceLost before after = true := by
  rcases hch with rfl | rfl <;> simp [referenceLost, h, h']

/-- 07 R121: what an arrival's endings, no capture first, leave of an open pass that loses its reference. -/
theorem State.endings_of_lost {before : State} (hopen : s.pass.context ≠ none)
    (hlost : referenceLost before s = true) :
    (s.endings before false).table = (s.closeAborted .referenceLost).table
      ∧ (s.endings before false).pass = (s.closeAborted .referenceLost).pass
      ∧ (s.closeAborted .referenceLost).KeepsEvents (s.endings before false) := by
  have habort : (s.passOpen && referenceLost before s) = true := by
    rw [hlost, Bool.and_true]
    exact Option.isSome_iff_ne_none.mpr hopen
  unfold State.endings
  dsimp only
  rw [habort, if_pos rfl, Bool.false_and, if_neg Bool.false_ne_true]
  split
  · obtain ⟨htable, hpass, -⟩ :=
      (State.EndedFrom.finishWait (s.closeAborted .referenceLost) .failedSignal none none false
        false).kept rfl
    exact ⟨htable, hpass, State.KeepsEvents.finishWait _ _ _ _⟩
  · exact ⟨rfl, rfl, .of_status rfl⟩

end

/-- Settles O11: the arrival up to its endings leaves table and pass; the endings abort the pass. -/
theorem referenceLossAbortsPass : Obligations.ReferenceLossAbortsPass := by
  intro a s c ch hquiet hfirst hc hch href hlost
  obtain ⟨f, rr, u, v, hpre, -, -, -, -, hmem⟩ := s.beforeEndings_eq a
  have htable : (s.beforeEndings a).table = s.table := by rw [hpre]
  have hpass : (s.beforeEndings a).pass = s.pass := by rw [hpre]
  have hnewest : (s.beforeEndings a).newest = some s.arrivingIndex := by rw [hpre]
  have hchannels : (s.beforeEndings a).channels = s.arrivedChannels a := by rw [hpre]
  have hstatus : (s.beforeEndings a).status = u := by rw [hpre]
  have harrived : (s.beforeEndings a).referenced ch = false := by
    rwa [State.referenced, State.chan, hchannels, State.arrivedChannels_get]
  have hcontext : (s.beforeEndings a).pass.context = some c := by rw [hpass, hc]
  have hopen : (s.beforeEndings a).pass.context ≠ none := by rw [hcontext]; nofun
  obtain ⟨htable', hpass', hevents⟩ :=
    State.endings_of_lost hopen (referenceLost_of_lost hch href harrived)
  obtain ⟨haborted, hdiscard, -, -⟩ := State.closeAborted_of_open hopen .referenceLost
  rw [← hfirst, ← State.arrive_eq] at htable' hpass' hevents
  refine ⟨s.arrive a, ?_, ?_, ?_, hevents _ haborted, hevents _ ?_⟩
  · rw [exec, execSampleArrival, s.settle_of_quiet hquiet]
  · rw [hpass', State.closeAborted_pass hcontext, hpass, State.newestIndex_of_some hnewest]
    rfl
  · rw [htable', hdiscard, htable]
    exact List.map_congr_left fun r _ => r.discard_eq
  · refine State.KeepsEvents.closeAborted _ _ _ ?_
    have hlostEvent := ChannelUnit.lost_of_arrive href hlost
    rw [hstatus, hmem _ (by cases ch <;> decide), any_lost, State.channelArrivals_get, hlostEvent,
      Bool.or_true, Bool.true_or]

end Sys2Proof.Machine
end

/-! ### A check of an open pass, and a check that opens none (06 R107, 07 R116 to R124, R131) -/

section
namespace Sys2Proof.Machine

/-! #### No pass, no wait -/

theorem State.passOpen_eq_false_iff {s : State} : s.passOpen = false ↔ s.pass.context = none :=
  Option.isSome_eq_false_iff.trans Option.isNone_iff_eq_none

theorem State.waiting_eq_false_iff {s : State} : s.waiting = false ↔ s.reref.wait = none :=
  Option.isSome_eq_false_iff.trans Option.isNone_iff_eq_none

/-! #### X_far and the settle run (07 R117, R118, R131) -/

/-- 07 R117: X_far after a check at `x`. -/
def PassContext.farAfter (c : PassContext) (x : Int) : Int :=
  if c.direction = .fwd then max c.xFar x else min c.xFar x

/-- 07 R118: the settle run after a check with ΔX, where fewer than `stop` is quiet. -/
def PassContext.runAfter (c : PassContext) (stop : Nat) (dx : Int) : Nat :=
  if dx.natAbs < stop then (if c.settleRun < 65535 then c.settleRun + 1 else c.settleRun) else 0

theorem PassContext.further_eq (c : PassContext) (x : Int) :
    (if further c.direction x c.xFar then x else c.xFar) = c.farAfter x := by
  cases hd : c.direction with
  | fwd =>
    simp only [further, farAfter, hd, decide_eq_true_iff, if_true]
    split <;> omega
  | rev =>
    simp only [further, farAfter, hd, decide_eq_true_iff, reduceCtorEq, if_false]
    split <;> omega

section
variable {s : State} {c : PassContext} {x prev dx : Int}

/-- 07 R117, R131: X_far moves, and the windows crossed up to it are marked. -/
theorem State.advanceFar_of_open (hc : s.pass.context = some c) (x : Int) :
    s.advanceFar x =
      (s.setContext (some { c with xFar := c.farAfter x })).withTable
        (s.table.map (crossingMark c.direction c.xStart (c.farAfter x))) := by
  have hmark : LineRecord.markCrossed c.direction c.xStart (c.farAfter x)
      = crossingMark c.direction c.xStart (c.farAfter x) :=
    funext fun r => r.markCrossed_eq _ _ _
  rw [State.advanceFar, hc]
  dsimp only
  rw [c.further_eq, ← hmark]
  rfl

/-- 07 R118, R119: the settle run, and in AUTO mode the closing tests. -/
theorem State.settleTest_of_open (hc : s.pass.context = some c) (dx : Int) :
    s.settleTest dx =
      if s.pass.mode = .auto ∧ dx.natAbs < s.pass.stopThr ∧ s.pass.settle ≤ c.runAfter s.pass.stopThr dx then
        (s.setContext (some { c with settleRun := c.runAfter s.pass.stopThr dx })).closeComplete .standstill
      else if s.pass.mode = .auto ∧ opposes c.direction dx = true ∧ s.pass.startThr ≤ dx.natAbs then
        (s.setContext (some { c with settleRun := c.runAfter s.pass.stopThr dx })).closeComplete .reversal
      else s.setContext (some { c with settleRun := c.runAfter s.pass.stopThr dx }) := by
  have hrun : (if decide (dx.natAbs < s.pass.stopThr) = true then satInc 65535 c.settleRun else 0)
      = c.runAfter s.pass.stopThr dx := by
    simp only [decide_eq_true_iff]
    rfl
  rw [State.settleTest, hc]
  dsimp only
  rw [hrun]
  by_cases hmode : s.pass.mode = .auto <;> simp [hmode]

/-- The open pass and the table once a check has moved X_far, marked the crossings and counted the settle
run. -/
def State.advanced (s : State) (c : PassContext) (x dx : Int) : State :=
  (s.setContext (some
    { c with xFar := c.farAfter x, settleRun := c.runAfter s.pass.stopThr dx })).withTable
    (s.table.map (crossingMark c.direction c.xStart (c.farAfter x)))

/-- 07 R118, R119: in AUTO mode a check closes the open pass at standstill or at a reversal. -/
theorem State.settleTest_advanceFar (hc : s.pass.context = some c) (x dx : Int) :
    (s.advanceFar x).settleTest dx =
      if s.pass.mode = .auto ∧ dx.natAbs < s.pass.stopThr ∧ s.pass.settle ≤ c.runAfter s.pass.stopThr dx then
        (s.advanced c x dx).closeComplete .standstill
      else if s.pass.mode = .auto ∧ opposes c.direction dx = true ∧ s.pass.startThr ≤ dx.natAbs then
        (s.advanced c x dx).closeComplete .reversal
      else s.advanced c x dx := by
  rw [State.advanceFar_of_open hc, State.settleTest_of_open rfl]
  rfl

/-- A check with a ΔX. -/
theorem State.runCheck_of_delta (hvalid : s.xReferenced = true) (hprev : s.pass.prevX = some prev) :
    s.runCheck = (((s.advanceFar s.position.x).settleTest (s.position.x - prev)).autoOpen s.position.x
      prev).setPrevX (some s.position.x) := by
  simp only [State.runCheck, State.position_xValid, hvalid, if_true, hprev]

/-- A check without a ΔX. -/
theorem State.runCheck_of_first (hvalid : s.xReferenced = true) (hprev : s.pass.prevX = none) :
    s.runCheck = (s.advanceFar s.position.x).setPrevX (some s.position.x) := by
  simp only [State.runCheck, State.position_xValid, hvalid, if_true, hprev]

theorem State.runCheck_of_invalid (hvalid : s.xReferenced = false) : s.runCheck = s.setPrevX none := by
  simp only [State.runCheck, State.position_xValid, hvalid, Bool.false_eq_true, if_false]

/-- 07 R120: HOST mode, an open pass, a wait, or a small ΔX opens no pass. -/
theorem State.autoOpen_of_not (h : s.pass.mode = .host ∨ s.pass.context ≠ none ∨ s.reref.wait ≠ none
    ∨ (x - prev).natAbs < s.pass.startThr) : s.autoOpen x prev = s := by
  refine if_neg fun ⟨hmode, hopen, hwait, hthr⟩ => ?_
  rcases h with h | h | h | h
  · simp [h] at hmode
  · exact h (State.passOpen_eq_false_iff.mp hopen)
  · exact h (State.waiting_eq_false_iff.mp hwait)
  · exact absurd hthr (Nat.not_le.mpr h)

/-- 07 R122, R124: the open pass committed, with its summary. -/
theorem State.closeComplete_of_open (hc : s.pass.context = some c) (reason : PassReason) :
    s.closeComplete reason =
      ((s.withPass
        { s.pass with
          context := none
          last := some
            { number := c.number, direction := c.direction, origin := c.origin, opening := c.opening
              closing := s.newestIndex, outcome := .complete, reason := reason, xStart := c.xStart
              xFar := c.xFar, counters := c.counters
              misses := (s.table.filter (fun r => r.state = .missed)).length
              committed := committedCount s.table } }).withTable
        (s.table.map LineRecord.commit)).raise .passDone := by
  rw [State.closeComplete, hc]
  rfl

/-- 07 R116, R120: a check that opens no pass only takes this X. -/
theorem State.runCheck_of_unopened (hvalid : s.xReferenced = true) (hclosed : s.pass.context = none)
    (hno : s.pass.prevX = none ∨ s.pass.mode = .host ∨ s.reref.wait ≠ none
      ∨ ∃ prev, s.pass.prevX = some prev ∧ (s.position.x - prev).natAbs < s.pass.startThr) :
    s.runCheck = s.setPrevX (some s.position.x) := by
  cases hprev : s.pass.prevX with
  | none => rw [State.runCheck_of_first hvalid hprev, State.advanceFar_of_closed hclosed]
  | some prev =>
    rw [State.runCheck_of_closed hvalid hclosed hprev, State.autoOpen_of_not]
    rcases hno with hnone | hmode | hwait | ⟨q, hq, hthr⟩
    · rw [hprev] at hnone
      cases hnone
    · exact .inl hmode
    · exact .inr (.inr (.inl hwait))
    · rw [hprev] at hq
      cases hq
      exact .inr (.inr (.inr hthr))

/-- 07 R117, R131: without a previous check X the settle run stays. -/
theorem State.runCheck_of_first_open (hvalid : s.xReferenced = true) (hprev : s.pass.prevX = none)
    (hc : s.pass.context = some c) :
    s.runCheck =
      (s.withPass
        { s.pass with
          prevX := some s.position.x
          context := some { c with xFar := c.farAfter s.position.x } }).withTable
        (s.table.map (crossingMark c.direction c.xStart (c.farAfter s.position.x))) := by
  rw [State.runCheck_of_first hvalid hprev, State.advanceFar_of_open hc]
  rfl

/-- 07 R116 to R118: the pass stays open in HOST mode, and where the check is neither the last of a standstill
nor a reversal. -/
theorem State.runCheck_of_staying (hvalid : s.xReferenced = true) (hprev : s.pass.prevX = some prev)
    (hc : s.pass.context = some c)
    (hstays : s.pass.mode = .host
      ∨ (s.pass.stopThr ≤ (s.position.x - prev).natAbs
          ∨ c.runAfter s.pass.stopThr (s.position.x - prev) < s.pass.settle)
        ∧ ((s.position.x - prev).natAbs < s.pass.startThr
          ∨ opposes c.direction (s.position.x - prev) = false)) :
    s.runCheck = (s.advanced c s.position.x (s.position.x - prev)).setPrevX (some s.position.x) := by
  have hstandstill : ¬(s.pass.mode = .auto ∧ (s.position.x - prev).natAbs < s.pass.stopThr
      ∧ s.pass.settle ≤ c.runAfter s.pass.stopThr (s.position.x - prev)) := by
    rintro ⟨hmode, hquiet, hsettle⟩
    rcases hstays with hhost | ⟨hloud | hrun, -⟩
    · simp [hhost] at hmode
    · omega
    · omega
  have hreversal : ¬(s.pass.mode = .auto ∧ opposes c.direction (s.position.x - prev) = true
      ∧ s.pass.startThr ≤ (s.position.x - prev).natAbs) := by
    rintro ⟨hmode, hopposes, hthr⟩
    rcases hstays with hhost | ⟨-, hslow | halong⟩
    · simp [hhost] at hmode
    · omega
    · simp [halong] at hopposes
  rw [State.runCheck_of_delta hvalid hprev, State.settleTest_advanceFar hc, if_neg hstandstill,
    if_neg hreversal, State.autoOpen_of_not (.inr (.inl (Option.some_ne_none _)))]

/-- 07 R118: the quiet check that brings the settle run to the settle count closes the pass; a ΔX below the
start threshold opens none. -/
theorem State.runCheck_of_standstill (hvalid : s.xReferenced = true) (hprev : s.pass.prevX = some prev)
    (hc : s.pass.context = some c) (hmode : s.pass.mode = .auto)
    (hquiet : (s.position.x - prev).natAbs < s.pass.stopThr) (hthr : s.pass.stopThr ≤ s.pass.startThr)
    (hsettle : s.pass.settle ≤ c.runAfter s.pass.stopThr (s.position.x - prev)) :
    s.runCheck = ((s.advanced c s.position.x (s.position.x - prev)).closeComplete .standstill).setPrevX
      (some s.position.x) := by
  rw [State.runCheck_of_delta hvalid hprev, State.settleTest_advanceFar hc, if_pos ⟨hmode, hquiet, hsettle⟩,
    State.autoOpen_of_not]
  exact .inr (.inr (.inr (hquiet.trans_le hthr)))

/-- The pass closed at a reversal, and the one opened in the direction `d`. -/
def State.reversed (s : State) (c : PassContext) (d : Direction) (x prev : Int) : State :=
  (((s.advanced c x (x - prev)).closeComplete .reversal).openPass d .auto prev x).markCrossings.setPrevX (some x)

/-- 07 R119, R120: a ΔX against the pass's direction, at or above the start threshold, closes the pass and
opens another. -/
theorem State.runCheck_of_reversal {d : Direction} (hvalid : s.xReferenced = true)
    (hprev : s.pass.prevX = some prev) (hc : s.pass.context = some c) (hmode : s.pass.mode = .auto)
    (hidle : s.reref.wait = none) (hstop : s.pass.stopThr ≤ s.pass.startThr)
    (hthr : s.pass.startThr ≤ (s.position.x - prev).natAbs)
    (hopposes : opposes c.direction (s.position.x - prev) = true)
    (hd : (if 0 < s.position.x - prev then .fwd else .rev) = d) :
    s.runCheck = s.reversed c d s.position.x prev := by
  have hloud : ¬(s.pass.mode = .auto ∧ (s.position.x - prev).natAbs < s.pass.stopThr
      ∧ s.pass.settle ≤ c.runAfter s.pass.stopThr (s.position.x - prev)) := by
    rintro ⟨-, hquiet, -⟩
    omega
  rw [State.runCheck_of_delta hvalid hprev, State.settleTest_advanceFar hc, if_neg hloud,
    if_pos ⟨hmode, hopposes, hthr⟩, State.reversed]
  have hclose := State.closeComplete_of_open (s := s.advanced c s.position.x (s.position.x - prev)) rfl .reversal
  generalize (s.advanced c s.position.x (s.position.x - prev)).closeComplete .reversal = u at hclose
  rw [State.autoOpen_of_start (s := u) (hclose ▸ hmode) (hclose ▸ rfl) (hclose ▸ hidle) (hclose ▸ hthr), hd]

/-- 07 R120, R122, R124, R131: what a reversal leaves of the pass, the table and the sticky events. -/
theorem State.reversed_eq (s : State) (c : PassContext) (d : Direction) (x prev : Int) :
    (s.reversed c d x prev).pass =
        { s.pass with
          number := s.pass.number + 1
          prevX := some x
          context := some
            { number := s.pass.number + 1, direction := d, origin := .auto, opening := s.newestIndex
              xStart := prev, xFar := x, settleRun := 0, counters := .zero }
          last := some
            { number := c.number, direction := c.direction, origin := c.origin, opening := c.opening
              closing := s.newestIndex, outcome := .complete, reason := .reversal, xStart := c.xStart
              xFar := c.farAfter x, counters := c.counters
              misses := ((s.advanced c x (x - prev)).table.filter (fun r => r.state = .missed)).length
              committed := committedCount (s.advanced c x (x - prev)).table } }
      ∧ (s.reversed c d x prev).table =
        (s.advanced c x (x - prev)).table.map (fun r => crossingMark d prev x
          (if r.commit.state = .primed then { r.commit with state := .armed } else r.commit))
      ∧ Event.passDone.mem (s.reversed c d x prev).status.sticky = true := by
  rw [State.reversed, State.openPass_markCrossings, State.closeComplete_of_open rfl]
  refine ⟨rfl, List.map_map, ?_⟩
  exact (State.mem_raise _ _ _).trans (by simp)

end

/-- Settles O14: not due, without a position, without a pass, and without a previous check X. -/
theorem checkWithoutDelta : Obligations.CheckWithoutDelta := by
  intro s
  refine ⟨fun hdue => ?_, fun hdue hage hout => ?_, fun hdue hage hxl hxr hclosed hno => ?_,
    fun c far hdue hage hxl hxr hc hprev hfar => ?_⟩
  · simp only [exec, execCheck, State.takeCheck, hdue, Bool.false_eq_true, if_false]
  · have hvalid : s.xReferenced = false := Bool.eq_false_iff.mpr (mt s.xReferenced_iff.mp hout)
    rw [exec_check_of_due hdue hage]
    exact congrArg Host.Outcome.next
      (State.runCheck_of_invalid (s := s.withArrival { s.arrival with check := false }) hvalid)
  · rw [exec_check_of_due hdue hage]
    exact congrArg Host.Outcome.next (State.runCheck_of_unopened
      (s := s.withArrival { s.arrival with check := false }) (s.xReferenced_iff.mpr ⟨hxl, hxr⟩) hclosed hno)
  · obtain rfl : far = c.farAfter s.position.x := hfar
    rw [exec_check_of_due hdue hage]
    exact congrArg Host.Outcome.next (State.runCheck_of_first_open
      (s := s.withArrival { s.arrival with check := false }) (s.xReferenced_iff.mpr ⟨hxl, hxr⟩) hprev hc)

/-- Settles O16: no closing test holds, and an open pass keeps another from opening. -/
theorem checkAdvancesPass : Obligations.CheckAdvancesPass := by
  intro s c prev far run hdue hage hxl hxr hc hprev hfar hrun hstays
  obtain rfl : far = c.farAfter s.position.x := hfar
  obtain rfl : run = c.runAfter s.pass.stopThr (s.position.x - prev) := hrun
  have halong : c.direction = .fwd ∧ prev ≤ s.position.x ∨ c.direction = .rev ∧ s.position.x ≤ prev →
      opposes c.direction (s.position.x - prev) = false := by
    rintro (⟨hd, hle⟩ | ⟨hd, hle⟩) <;> simp [opposes, hd, hle]
  rw [exec_check_of_due hdue hage]
  exact congrArg Host.Outcome.next (State.runCheck_of_staying
    (s := s.withArrival { s.arrival with check := false }) (s.xReferenced_iff.mpr ⟨hxl, hxr⟩) hprev hc
    (hstays.imp_right fun ⟨hrun, hslow⟩ => ⟨hrun, hslow.imp_right halong⟩))

/-- Settles O17: the standstill commits the pass as the check has left it. -/
theorem checkClosesAtStandstill : Obligations.CheckClosesAtStandstill := by
  intro s c prev far k marked hdue hage hnewest hxl hxr hc hprev hmode hthr hquiet hsettle hfar hmarked
  obtain rfl : far = c.farAfter s.position.x := hfar
  subst hmarked
  have hrun : s.pass.settle ≤ c.runAfter s.pass.stopThr (s.position.x - prev) := by
    rwa [PassContext.runAfter, if_pos hquiet]
  rw [exec_check_of_due hdue hage, ← State.newestIndex_of_some hnewest]
  refine congrArg Host.Outcome.next ((State.runCheck_of_standstill
    (s := s.withArrival { s.arrival with check := false }) (s.xReferenced_iff.mpr ⟨hxl, hxr⟩) hprev hc hmode
    hquiet hthr hrun).trans ?_)
  rw [State.closeComplete_of_open rfl]
  rfl

/-- Settles O18: the reversal commits the pass as the check has left it, and the ΔX opens another. -/
theorem checkReversesPass : Obligations.CheckReversesPass := by
  intro s c prev far k d marked hdue hage hnewest hxl hxr hidle hc hprev hmode hstop hthr hd hfar hmarked
  obtain rfl : far = c.farAfter s.position.x := hfar
  subst hmarked
  have hopposes : opposes c.direction (s.position.x - prev) = true := by
    rcases hd with ⟨hc, hlt, -⟩ | ⟨hc, hlt, -⟩ <;> simp [opposes, hc, hlt]
  have hdir : (if 0 < s.position.x - prev then Direction.fwd else .rev) = d := by
    rcases hd with ⟨-, hlt, rfl⟩ | ⟨-, hlt, rfl⟩
    · exact if_neg (by omega)
    · exact if_pos (by omega)
  have hrun := State.runCheck_of_reversal (s := s.withArrival { s.arrival with check := false })
    (s.xReferenced_iff.mpr ⟨hxl, hxr⟩) hprev hc hmode hidle hstop hthr hopposes hdir
  obtain ⟨hpass, htable, hmem⟩ :=
    State.reversed_eq (s.withArrival { s.arrival with check := false }) c d s.position.x prev
  obtain ⟨_, _, _, hshape⟩ := (s.withArrival { s.arrival with check := false }).runCheck_shape
  rw [← State.newestIndex_of_some hnewest]
  refine ⟨_, exec_check_of_due hdue hage, ?_, ?_, ?_, ?_⟩
  · rw [hrun]
    exact hpass
  · rw [hrun]
    exact htable
  · rw [hrun]
    exact hmem
  · rw [hshape]
    exact ⟨rfl, rfl, rfl, rfl⟩

end Sys2Proof.Machine
end

/-! ### PASS_OPEN, PASS_CLOSE and PASS_ABORT (07 R120, R122 to R124, R126 to R128) -/

section
namespace Sys2Proof.Machine

section
variable {s : State} {c : PassContext} {n : Nat} {d : Direction}

theorem directionOfCode_of_out (hn : n ≠ 1 ∧ n ≠ 2) : directionOfCode n = none := by
  obtain ⟨h1, h2⟩ := hn
  unfold directionOfCode
  split
  exacts [absurd rfl h1, absurd rfl h2, rfl]

theorem directionOfCode_of_in (hn : n = 1 ∨ n = 2) :
    directionOfCode n = some (if n = 1 then .fwd else .rev) := by
  rcases hn with rfl | rfl <;> rfl

/-! #### PASS_OPEN, test by test (07 R126) -/

theorem State.servePassOpen_of_range (hd : directionOfCode n = none) :
    s.servePassOpen n = s.refuse .range := by
  rw [State.servePassOpen, hd]

theorem State.servePassOpen_of_auto (hd : directionOfCode n = some d) (hmode : s.pass.mode = .auto) :
    s.servePassOpen n = s.refuse .state := by
  simp only [State.servePassOpen, hd, hmode, if_true]

theorem State.servePassOpen_of_open (hd : directionOfCode n = some d) (hmode : s.pass.mode = .host)
    (hopen : s.pass.context ≠ none) : s.servePassOpen n = s.refuse .inPass := by
  have hisOpen : s.passOpen = true := Option.isSome_iff_ne_none.mpr hopen
  simp [State.servePassOpen, hd, hmode, hisOpen]

theorem State.servePassOpen_of_unready (hd : directionOfCode n = some d) (hmode : s.pass.mode = .host)
    (hclosed : s.pass.context = none)
    (hready : s.referenced .xl = false ∨ s.referenced .xr = false ∨ s.reref.wait ≠ none) :
    s.servePassOpen n = s.refuse .state := by
  have hunready : (!s.xReferenced || s.waiting) = true := by
    rcases hready with hxl | hxr | hwait
    · simp [State.xReferenced, hxl]
    · simp [State.xReferenced, hxr]
    · simp [show s.waiting = true from Option.isSome_iff_ne_none.mpr hwait]
  simp [State.servePassOpen, hd, hmode, State.passOpen_eq_false_iff.mpr hclosed, hunready]

/-- 07 R120, R126: the pass opens at the newest sample's X. -/
theorem State.servePassOpen_of_ready (hd : directionOfCode n = some d) (hmode : s.pass.mode = .host)
    (hclosed : s.pass.context = none) (hxl : s.referenced .xl = true) (hxr : s.referenced .xr = true)
    (hidle : s.reref.wait = none) :
    s.servePassOpen n =
      { state := s.openPass d .host s.position.x s.position.x, status := .ok
        data := sentU 4 (s.pass.number + 1).toNat } := by
  simp [State.servePassOpen, hd, hmode, State.passOpen_eq_false_iff.mpr hclosed,
    State.waiting_eq_false_iff.mpr hidle, s.xReferenced_iff.mpr ⟨hxl, hxr⟩]

/-- 06 R96, 07 R120: the pass and the records of an opening. -/
theorem State.openPass_eq (s : State) (d : Direction) (origin : PassMode) (xStart xFar : Int) :
    s.openPass d origin xStart xFar =
      (s.withPass
        { s.pass with
          number := s.pass.number + 1
          context := some
            { number := s.pass.number + 1, direction := d, origin := origin, opening := s.newestIndex
              xStart := xStart, xFar := xFar, settleRun := 0, counters := .zero } }).withTable
        (s.table.map (fun r => if r.state = .primed then { r with state := .armed } else r)) := by
  simp only [← LineRecord.joinPass_eq]
  rfl

/-! #### PASS_CLOSE and PASS_ABORT (06 R108, 07 R122 to R124, R127, R128) -/

/-- 06 R108, 07 R123, R124: the open pass discarded, with its summary. -/
theorem State.closeAborted_eq (hc : s.pass.context = some c) (reason : PassReason) :
    s.closeAborted reason =
      ((s.withPass
        { s.pass with
          context := none
          last := some
            { number := c.number, direction := c.direction, origin := c.origin, opening := c.opening
              closing := s.newestIndex, outcome := .aborted, reason := reason, xStart := c.xStart
              xFar := c.xFar, counters := c.counters, misses := 0, committed := 0 } }).withTable
        (s.table.map (fun r => if r.state = .taken ∨ r.state = .missed then
            { r with state := .armed, pending := none }
          else r))).raise .passAborted := by
  simp only [← LineRecord.discard_eq]
  rw [State.closeAborted, State.passOpen, hc, Option.isSome_some, if_pos rfl, State.discardPass, hc]
  rfl

end

/-- Settles O54: each request by the test that refuses it, or by what it opens or closes. -/
theorem passRequestsServed : Obligations.PassRequestsServed := by
  intro s h q
  refine ⟨s.newestIndex, fun n hn => State.newestIndex_of_some hn, fun d => ⟨fun hd => ?_,
    fun hd hmode => ?_, fun hd hmode hopen => ?_, fun hd hmode hclosed hready => ?_,
    fun hd hmode hclosed hxl hxr hidle => ?_⟩, fun hclosed => ⟨?_, ?_⟩, fun c hc => ⟨?_, ?_⟩⟩
  · exact exec_of_refused q (.passOpen d) rfl (State.servePassOpen_of_range (directionOfCode_of_out hd)) rfl
  · exact exec_of_refused q (.passOpen d) rfl
      (State.servePassOpen_of_auto (directionOfCode_of_in hd) hmode) rfl
  · exact exec_of_refused q (.passOpen d) rfl
      (State.servePassOpen_of_open (directionOfCode_of_in hd) hmode hopen) rfl
  · exact exec_of_refused q (.passOpen d) rfl
      (State.servePassOpen_of_unready (directionOfCode_of_in hd) hmode hclosed hready) rfl
  · refine (exec_of_taken q (.passOpen d) rfl (State.servePassOpen_of_ready (directionOfCode_of_in hd) hmode
      hclosed hxl hxr hidle) rfl rfl).trans ?_
    rw [State.openPass_eq]
    rfl
  · exact exec_of_refused q .passClose rfl (by rw [State.serve, State.servePassClose, hclosed]) rfl
  · exact exec_of_refused q .passAbort rfl (by rw [State.serve, State.servePassAbort, hclosed]) rfl
  · rw [← State.closeComplete_of_open hc]
    refine exec_of_taken q .passClose rfl (by rw [State.serve, State.servePassClose, hc]) ?_ rfl
    rw [State.closeComplete_of_open hc]
    rfl
  · rw [← State.closeAborted_eq hc]
    refine exec_of_taken q .passAbort rfl (by rw [State.serve, State.servePassAbort, hc]) ?_ rfl
    rw [State.closeAborted_eq hc]
    rfl

end Sys2Proof.Machine
end

/-! ### Every step keeps a pass and a wait on their signal (07 R120, R121, 08 R139, R143) -/

section
namespace Sys2Proof.Machine

/-! #### What an event leaves of XL and XR, the pass and the wait -/

/-- An ABORTED close leaves no pass open. -/
theorem State.closeAborted_context (s : State) (r : PassReason) : (s.closeAborted r).pass.context = none := by
  by_cases hclosed : s.pass.context = none
  · rw [State.closeAborted_of_closed hclosed, hclosed]
  · obtain ⟨-, -, hnone, -⟩ := State.closeAborted_of_open hclosed r
    exact hnone

/-- An ending leaves no wait in force. -/
theorem State.finishWait_wait (s : State) (o : RerefOutcome) (c : Option RerefCapture)
    (a : Option RerefApplied) : (s.finishWait o c a).reref.wait = none := by
  by_cases hidle : s.reref.wait = none
  · rw [State.finishWait_of_idle hidle, hidle]
  · obtain ⟨-, hnone, -⟩ := State.finishWait_of_waiting hidle o c a
    exact hnone

/-- XL and XR keep their states or begin to track; a pass is opened only on a reference and outside a wait;
no wait begins. -/
structure State.KeepsReference (s t : State) : Prop where
  state : ∀ ch, ch = .xl ∨ ch = .xr → (t.chan ch).counter.state = (s.chan ch).counter.state
    ∨ (t.chan ch).counter.state = .tracking
  pass : t.pass.context ≠ none → s.pass.context ≠ none ∨ t.xReferenced = true ∧ t.reref.wait = none
  wait : t.reref.wait ≠ none → s.reref.wait ≠ none

namespace State.KeepsReference

variable {s t u : State}

theorem refl (s : State) : s.KeepsReference s := ⟨fun _ _ => .inl rfl, .inl, id⟩

theorem idle (h : s.KeepsReference t) (hs : s.reref.wait = none) : t.reref.wait = none :=
  not_not.mp fun ht => h.wait ht hs

theorem xReferenced (h : s.KeepsReference t) (hs : s.xReferenced = true) : t.xReferenced = true := by
  have hkeep (ch : Channel) (hch : ch = .xl ∨ ch = .xr) (href : s.referenced ch = true) :
      t.referenced ch = true := by
    rcases h.state ch hch with e | e <;> rw [State.referenced, e]
    exacts [href, rfl]
  obtain ⟨hxl, hxr⟩ := s.xReferenced_iff.mp hs
  exact t.xReferenced_iff.mpr ⟨hkeep .xl (.inl rfl) hxl, hkeep .xr (.inr rfl) hxr⟩

theorem trans (h : s.KeepsReference t) (h' : t.KeepsReference u) : s.KeepsReference u where
  state ch hch := by
    rcases h'.state ch hch with e | e
    · rw [e]
      exact h.state ch hch
    · exact .inr e
  pass hu := by
    rcases h'.pass hu with ht | hnew
    · exact (h.pass ht).imp_right fun ⟨href, hidle⟩ => ⟨h'.xReferenced href, h'.idle hidle⟩
    · exact .inr hnew
  wait hu := h.wait (h'.wait hu)

/-- Of the pass and the wait only whether there is one is asked. -/
theorem of_channels (hch : t.channels = s.channels) (hpass : t.pass.context ≠ none → s.pass.context ≠ none)
    (hwait : t.reref.wait ≠ none → s.reref.wait ≠ none) : s.KeepsReference t :=
  ⟨fun _ _ => .inl (by rw [State.chan, hch]; rfl), fun h => .inl (hpass h), hwait⟩

theorem of_kept (hch : t.channels = s.channels) (hpass : t.pass = s.pass) (hreref : t.reref = s.reref) :
    s.KeepsReference t :=
  of_channels hch (by rw [hpass]; exact id) (by rw [hreref]; exact id)

theorem of_counts (hch : s.KeepsCounts t) (hpass : t.pass = s.pass) (hreref : t.reref = s.reref) :
    s.KeepsReference t :=
  ⟨fun ch _ => have ⟨_, _, _, hstate⟩ := hch ch; .inl hstate, fun h => .inl (hpass ▸ h),
    fun h => hreref ▸ h⟩

/-- A pass and a wait that are kept stay on their signal. -/
theorem passReferenced (h : s.KeepsReference t) (hs : s.PassReferenced) : t.PassReferenced := by
  intro ht
  obtain ⟨hreferenced, hidle⟩ : t.xReferenced = true ∧ t.reref.wait = none := by
    rcases h.pass ht with hopen | hnew
    · obtain ⟨hxl, hxr, hidle⟩ := hs hopen
      exact ⟨h.xReferenced (s.xReferenced_iff.mpr ⟨hxl, hxr⟩), h.idle hidle⟩
    · exact hnew
  obtain ⟨hxl, hxr⟩ := t.xReferenced_iff.mp hreferenced
  exact ⟨hxl, hxr, hidle⟩

theorem waitHasSignal (h : s.KeepsReference t) (hs : s.WaitHasSignal) : t.WaitHasSignal := by
  intro ht ch hch
  rcases h.state ch hch with e | e <;> rw [e]
  · exact hs (h.wait ht) ch hch
  · exact ⟨nofun, nofun⟩

/-! #### The operations -/

/-- 07 R120: a check opens a pass only on a reference and outside a wait. -/
theorem runCheck (s : State) : s.KeepsReference s.runCheck := by
  obtain ⟨_, _, _, e⟩ := s.runCheck_shape
  have hreref : s.runCheck.reref = s.reref := by rw [e]
  have hchannels : s.runCheck.channels = s.channels := by rw [e]
  have href : s.runCheck.xReferenced = s.xReferenced := by
    rw [State.xReferenced, State.referenced, State.referenced, State.chan, State.chan, hchannels]
    rfl
  refine ⟨fun ch _ => .inl (by rw [State.chan, hchannels]; rfl), fun hopen => ?_, hreref ▸ id⟩
  by_contra hno
  obtain ⟨hclosed, hnew⟩ := not_or.mp hno
  rw [href, hreref] at hnew
  rw [ne_eq, not_not] at hclosed
  refine hopen ?_
  cases hvalid : s.xReferenced with
  | false =>
    rw [State.runCheck_of_invalid hvalid]
    exact hclosed
  | true =>
    have hwait : s.reref.wait ≠ none := fun hidle => hnew ⟨hvalid, hidle⟩
    rw [State.runCheck_of_unopened hvalid hclosed (.inr (.inr (.inl hwait)))]
    exact hclosed

theorem closeComplete (s : State) (r : PassReason) : s.KeepsReference (s.closeComplete r) := by
  unfold State.closeComplete
  split
  · exact refl s
  · exact of_channels rfl (fun h => absurd rfl h) id

theorem closeAborted (s : State) (r : PassReason) : s.KeepsReference (s.closeAborted r) := by
  obtain ⟨_, _, _, e⟩ := s.closeAborted_shape r
  exact of_channels (by rw [e]) (absurd (s.closeAborted_context r)) (by rw [e]; exact id)

theorem finishWait (s : State) (o : RerefOutcome) (c : Option RerefCapture) (a : Option RerefApplied) :
    s.KeepsReference (s.finishWait o c a) := by
  obtain ⟨_, _, e⟩ := s.finishWait_shape o c a
  exact of_channels (by rw [e]) (by rw [e]; exact id) (absurd (s.finishWait_wait o c a))

theorem moveValidFrom (s : State) (k : Nat) : s.KeepsReference (s.moveValidFrom k) := by
  unfold State.moveValidFrom
  split
  · exact refl s
  next w hw => exact of_channels rfl id fun _ => by rw [hw]; nofun

theorem epochMoved (s : State) (ch : Channel) : s.KeepsReference (s.epochMoved ch) := by
  cases ch
  exacts [moveValidFrom s _, moveValidFrom s _, refl s, refl s]

/-- A counter that begins to track. -/
theorem setCounter (s : State) (ch : Channel) {c : Counter} (hc : c.state = .tracking) :
    s.KeepsReference (s.setCounter ch c) := by
  refine ⟨fun a _ => ?_, .inl, id⟩
  rw [State.setCounter, State.chan_setChan]
  split
  exacts [.inr hc, .inl rfl]

/-- 02 R34: a re-base leaves the channel TRACKING. -/
theorem rebase (s : State) (ch : Channel) (dp rEff : Int) :
    s.KeepsReference (s.setCounter ch ((s.chan ch).counter.rebase dp rEff)) :=
  setCounter s ch rfl

theorem tableCapture (s : State) (c : Capture) : s.KeepsReference (s.tableCapture c) := by
  obtain ⟨_, _, e⟩ := s.tableCapture_shape c
  refine of_channels (by rw [e]) (fun hopen hclosed => hopen ?_) (by rw [e]; exact id)
  rw [State.tableCapture_of_closed hclosed]
  exact hclosed

/-- 08 R147: the datum capture sets XL and XR TRACKING. -/
theorem applyDatum (s : State) (c : Capture) (half : Direction) (target : Int) :
    s.KeepsReference (s.applyDatum c half target) := by
  unfold State.applyDatum
  dsimp only
  have hxl := rebase s .xl (correctionOf target (pathTerm c.pXL c.wEff) c.wEff) c.rEff
  have hxr := hxl.trans (rebase _ .xr (correctionOf target (pathTerm c.pXR c.wEff) c.wEff) c.rEff)
  refine trans ?_ (finishWait _ _ _ _)
  exact hxr.trans (of_channels rfl id id)

theorem rerefCapture (s : State) (c : Capture) : s.KeepsReference (s.rerefCapture c) := by
  unfold State.rerefCapture
  split
  · exact refl s
  next w hw =>
    split
    · exact of_channels rfl id fun _ => by rw [hw]; nofun
    · split
      exacts [finishWait s _ _ _, applyDatum s c _ _]

theorem completeCapture (s : State) : s.KeepsReference s.completeCapture := by
  have hline (l : LineInput) : s.KeepsReference (s.withLine l) := of_kept rfl rfl rfl
  unfold State.completeCapture State.routeCapture
  split
  · exact refl s
  · split
    · dsimp only
      split
      exacts [(hline _).trans (rerefCapture _ _), (hline _).trans (tableCapture _ _)]
    · split
      exacts [hline _, refl s]

/-- What an event keeps, every due event keeps. -/
theorem eventInvariant {P : State → Prop} (hP : ∀ {s t : State}, s.KeepsReference t → P s → P t) :
    State.EventInvariant P where
  frame := hP (of_kept rfl rfl rfl)
  ageStep {s} := by
    obtain ⟨_, _, e⟩ := s.ageStep_shape
    exact hP (e ▸ of_kept rfl rfl rfl)
  fitStart {s} := by
    obtain ⟨_, _, _, e⟩ := s.fitStart_shape
    exact hP (e ▸ of_kept rfl rfl rfl)
  fitFinish {s} := by
    obtain ⟨_, _, _, e⟩ := s.fitFinish_shape
    exact hP (of_counts (.fitFinish s) (by rw [e]) (by rw [e]))
  fitTimeout {s} := by
    obtain ⟨_, _, e⟩ := s.fitTimeout_shape
    exact hP (e ▸ of_kept rfl rfl rfl)
  fillSlot := hP (of_kept rfl rfl rfl)
  installPending {s} ch := by
    obtain ⟨_, _, _, e⟩ := s.installPending_shape ch
    exact hP (of_counts (.installPending s ch) (by rw [e]) (by rw [e]))
  runCheck := hP (runCheck _)
  completeCapture := hP (completeCapture _)
  closeAborted r := hP (closeAborted _ r)
  finishWait o c a := hP (finishWait _ o c a)

/-- 03 R51: a reset installs parameters and moves no count. -/
theorem serveFit (s : State) (channel kind : Nat) :
    s.KeepsReference (s.serveFit channel kind).state := by
  have hestimate (ch : Channel) (k : EstimateKind) : s.KeepsReference (s.serveEstimate ch k).state := by
    unfold State.serveEstimate
    repeat' split
    all_goals exact of_kept rfl rfl rfl
  have hreset (ch : Channel) : s.KeepsReference (s.takeReset ch) := by
    obtain ⟨_, _, _, e⟩ := s.takeReset_shape ch
    refine of_counts ?_ (by rw [e]) (by rw [e])
    have hended : s.KeepsCounts (s.endRequests ch .abandonedReset) :=
      .of_channels (s.requestsEnded_endRequests ch _).channels
    unfold State.takeReset
    dsimp only
    split
    iterate 2 exact hended.trans (.of_channels rfl)
    all_goals exact hended.trans (.installNominal _ ch)
  unfold State.serveFit State.serveReset
  repeat' split
  exacts [refl s, hestimate _ _, hestimate _ _, refl s, hreset _, refl s]

theorem takeCapture (s : State) : s.KeepsReference s.takeCapture :=
  (eventInvariant (P := s.KeepsReference) fun h h' => h'.trans h).takeCapture (refl s)

end State.KeepsReference

/-! #### The arrival (07 R121, 08 R143) -/

/-- 02 R19 to R25: no sample switches a channel OFF. -/
theorem Counter.arrive_ne_off {c : Counter} (h : c.state ≠ .off) (φ amp : Nat) :
    (c.arrive φ amp).counter.state ≠ .off := by
  have hcoast (c : Counter) (run : Nat) : (c.coast run).counter.state ≠ .off := by
    unfold coast
    dsimp only
    split <;> nofun
  unfold arrive
  split
  next hoff => exact absurd hoff h
  next hdark =>
    repeat' split
    exacts [nofun, h, h]
  all_goals
    split
    · split <;> nofun
  · nofun
  · exact hcoast c 1
  · split
    exacts [hcoast c _, nofun]

/-- The pass and the wait stand on their signal (07 R120, 08 R143). -/
structure State.ReferenceSound (s : State) : Prop where
  pass : s.PassReferenced
  signal : s.WaitHasSignal

namespace State.ReferenceSound

variable {s t : State}

theorem keep (h : s.ReferenceSound) (hk : s.KeepsReference t) : t.ReferenceSound :=
  ⟨hk.passReferenced h.pass, hk.waitHasSignal h.signal⟩

/-- Without a pass and a wait nothing is asked. -/
theorem of_idle (hpass : t.pass.context = none) (hwait : t.reref.wait = none) : t.ReferenceSound :=
  ⟨fun h => absurd hpass h, fun h => absurd hwait h⟩

theorem eventInvariant : State.EventInvariant State.ReferenceSound :=
  State.KeepsReference.eventInvariant fun hk h => h.keep hk

/-- 07 R121, 08 R143: the endings of an arrival at which the channels alone have moved. A pass and a wait
do not stand together, so each ending leaves neither. -/
theorem endings {m : State} (h : s.ReferenceSound) (first : Bool) (hpass : m.pass = s.pass)
    (hwait : m.reref.wait ≠ none → s.reref.wait ≠ none)
    (hoff : ∀ ch, (s.chan ch).counter.state ≠ .off → (m.chan ch).counter.state ≠ .off) :
    (m.endings s first).ReferenceSound := by
  have hfirst (b : Bool) : m.KeepsReference (if b then m.takeCapture else m) := by
    cases b
    exacts [.refl m, .takeCapture m]
  have hexclusive (hopen : m.pass.context ≠ none) : m.reref.wait = none := by
    obtain ⟨-, -, hidle⟩ := h.pass (hpass ▸ hopen)
    exact not_not.mp fun hm => hwait hm hidle
  unfold State.endings
  dsimp only
  cases hlost : m.passOpen && referenceLost s m with
  | true =>
    obtain ⟨hopen, -⟩ := Bool.and_eq_true_iff.mp hlost
    have hidle := hexclusive (Option.isSome_iff_ne_none.mp hopen)
    rw [State.waiting_eq_false_iff.mpr hidle, Bool.false_and, if_neg Bool.false_ne_true, if_pos rfl]
    exact of_idle (State.closeAborted_context _ _) (((hfirst _).trans (.closeAborted _ _)).idle hidle)
  | false =>
    rw [if_neg Bool.false_ne_true]
    cases hfail : m.waiting && signalLost s m with
    | true =>
      rw [if_pos rfl]
      have hm : m.PassReferenced := fun hopen => by
        rw [State.waiting_eq_false_iff.mpr (hexclusive hopen)] at hfail
        cases hfail
      exact ⟨((hfirst _).trans (.finishWait _ _ _ _)).passReferenced hm,
        fun hstands => absurd (State.finishWait_wait _ _ _ _) hstands⟩
    | false =>
      rw [if_neg Bool.false_ne_true, Bool.or_false, Bool.and_false, if_neg Bool.false_ne_true]
      refine ⟨fun hopen => ?_, fun hstands ch hch => ⟨?_, ?_⟩⟩
      · obtain ⟨hxl, hxr, -⟩ := h.pass (hpass ▸ hopen)
        have hkept : referenceLost s m = false := by
          rwa [State.passOpen, Option.isSome_iff_ne_none.mpr hopen, Bool.true_and] at hlost
        simp only [referenceLost, hxl, hxr, Bool.true_and, Bool.or_eq_false_iff, Bool.not_eq_false'] at hkept
        exact ⟨hkept.1, hkept.2, hexclusive hopen⟩
      · obtain ⟨hon, -⟩ := h.signal (hwait hstands) ch hch
        exact hoff ch hon
      · obtain ⟨-, hlit⟩ := h.signal (hwait hstands) ch hch
        have hkept : signalLost s m = false := by
          rwa [State.waiting, Option.isSome_iff_ne_none.mpr hstands, Bool.true_and] at hfail
        rw [signalLost, Bool.or_eq_false_iff] at hkept
        rcases hch with rfl | rfl
        · simpa [becameDark, hlit] using hkept.1
        · simpa [becameDark, hlit] using hkept.2

theorem arrive (h : s.ReferenceSound) (a : SampleInput) : (s.arrive a).ReferenceSound := by
  rw [State.arrive_eq]
  obtain ⟨f, rr, u, v, e, -, -, hidle, -⟩ := s.beforeEndings_eq a
  refine h.endings a.captureFirst (by rw [e]) (fun hm hs => hm ?_) (fun ch hon => ?_)
  · rw [e]
    exact (congrArg RerefUnit.wait (hidle hs)).trans hs
  · have hchan : (s.beforeEndings a).chan ch = ((s.chan ch).arrive (a.pairOf ch)).unit := by
      rw [State.chan, e]
      exact s.arrivedChannels_get a ch
    rw [hchan, ChannelUnit.arrive_of_on hon]
    exact Counter.arrive_ne_off hon _ _

theorem pulse (h : s.ReferenceSound) (edge : Edge) (e : Nat) : (s.pulse edge e).ReferenceSound := by
  have hcount : s.KeepsReference s.countCrowded :=
    .of_channels rfl (fun hopen hclosed => hopen (by rw [State.countCrowded, State.count, hclosed]; rfl)) id
  unfold State.pulse
  repeat' split
  exacts [h.keep hcount, h.keep (.of_kept rfl rfl rfl), h]

theorem restartAll (s : State) (straps : Nat) : (s.restartAll straps).ReferenceSound := by
  rw [State.restartAll_eq]
  exact of_idle rfl rfl

theorem powerOn (s : State) (straps : Nat) : (s.powerOn straps).ReferenceSound := of_idle rfl rfl

/-! #### Requests (02 R30 to R33, 07 R126 to R128, 08 R139, R144) -/

/-- 02 R31: a channel that is OFF bears neither a pass nor a wait. -/
theorem enableChannel (h : s.ReferenceSound) {ch : Channel} (hoff : (s.chan ch).counter.state = .off)
    (v : ChannelUnit) : ((s.setChan ch v).enableChannel ch).ReferenceSound := by
  rw [State.enableChannel_setChan v hoff h.signal]
  by_cases hch : ch = .xl ∨ ch = .xr
  · have hclosed : s.pass.context = none := by
      by_contra hopen
      obtain ⟨hxl, hxr, -⟩ := h.pass hopen
      rcases hch with rfl | rfl
      · simp [State.referenced, hoff, ChannelState.referenced] at hxl
      · simp [State.referenced, hoff, ChannelState.referenced] at hxr
    exact of_idle hclosed (not_not.mp fun hwait => (h.signal hwait ch hch).1 hoff)
  · refine h.keep ⟨fun c hc => .inl ?_, .inl, id⟩
    have hne : c ≠ ch := fun e => hch (e ▸ hc)
    rw [State.chan_setChan, if_neg hne]

/-- 02 R32, 07 R121, 08 R143: XL and XR end the pass and the wait as they go OFF. -/
theorem disableChannel (h : s.ReferenceSound) (ch : Channel) (v : ChannelUnit) :
    ((s.setChan ch v).disableChannel ch).ReferenceSound := by
  obtain ⟨hother, hmeasuring⟩ := s.disableChannel_pass ch v
  by_cases hch : ch = .xl ∨ ch = .xr
  · exact of_idle (hmeasuring hch).context (hmeasuring hch).wait
  · obtain ⟨hpass, -, hreref⟩ := hother (by cases ch <;> simp at hch ⊢)
    refine h.keep ⟨fun c hc => .inl ?_, fun hopen => .inl (hpass ▸ hopen), fun hwait => hreref ▸ hwait⟩
    have hne : c ≠ ch := fun e => hch (e ▸ hc)
    rw [((s.fitDisabled_disableChannel ch v).other c hne).1, State.countersOff, State.chan_setChan, if_neg hne]

theorem serveChannelSet (h : s.ReferenceSound) (f : ChannelFields) :
    (s.serveChannelSet f).state.ReferenceSound := by
  cases hq : readChannelFields f with
  | none =>
    rw [State.serveChannelSet, hq]
    exact h
  | some q =>
    rw [State.serveChannelSet_eq hq, State.afterChannelSet]
    dsimp only
    split
    next hon =>
      obtain ⟨-, hoff⟩ := hon
      exact h.enableChannel hoff _
    · split
      · exact h.disableChannel _ _
      · refine h.keep ⟨fun ch _ => .inl ?_, .inl, id⟩
        rw [State.chan_setChan]
        split
        next e => rw [e]; rfl
        next => rfl

theorem servePreset (h : s.ReferenceSound) (channel : Nat) (p : Int) :
    (s.servePreset channel p).state.ReferenceSound := by
  have hpreset (ch : Channel) : ((s.setCounter ch ((s.chan ch).counter.preset p s.rEff)).epochMoved
      ch).ReferenceSound :=
    (h.keep (.setCounter s ch rfl)).keep (.epochMoved _ ch)
  unfold State.servePreset
  repeat' split
  iterate 6 exact h
  exacts [hpreset _, h, hpreset _]

/-- 08 R139: a wait begins while no pass is open and XL and XR have a signal. -/
theorem serveReref (h : s.ReferenceSound) (line : Int) (timeoutS : Nat) :
    (s.serveReref line timeoutS).state.ReferenceSound := by
  unfold State.serveReref
  dsimp only
  split
  · exact h
  split
  · exact h
  split
  · exact h
  next hclosed =>
  split
  · exact h
  next husable =>
  repeat' split
  iterate 2 exact h
  refine ⟨fun hopen => absurd (Option.isSome_iff_ne_none.mpr hopen) hclosed, fun _ ch hch => ?_⟩
  change (s.chan ch).counter.state ≠ .off ∧ (s.chan ch).counter.state ≠ .dark
  rcases hch with rfl | rfl
  all_goals exact ⟨fun e => husable (by simp [e]), fun e => husable (by simp [e])⟩

/-- 07 R126: PASS_OPEN opens a pass only on a reference and outside a wait. -/
theorem servePassOpen (h : s.ReferenceSound) (direction : Nat) :
    (s.servePassOpen direction).state.ReferenceSound := by
  unfold State.servePassOpen
  repeat' split
  iterate 4 exact h
  next hready =>
    simp only [Bool.or_eq_true, Bool.not_eq_true', not_or, Bool.not_eq_false, Bool.not_eq_true] at hready
    obtain ⟨href, hidle⟩ := hready
    exact h.keep ⟨fun _ _ => .inl rfl, fun _ => .inr ⟨href, State.waiting_eq_false_iff.mp hidle⟩, id⟩

theorem serve (h : s.ReferenceSound) (r : Request) : (s.serve r).state.ReferenceSound := by
  cases r
  case channelSet f => exact h.serveChannelSet f
  case preset c p => exact h.servePreset c p
  case fit c k => exact h.keep (.serveFit s c k)
  case passOpen d => exact h.servePassOpen d
  case reref l n => exact h.serveReref l n
  case passClose =>
    dsimp only [State.serve, State.servePassClose]
    split
    exacts [h, h.keep (.closeComplete s _)]
  case passAbort =>
    dsimp only [State.serve, State.servePassAbort]
    split
    exacts [h, h.keep (.closeAborted s _)]
  case rerefCancel =>
    dsimp only [State.serve, State.serveRerefCancel]
    split
    exacts [h.keep (.finishWait s _ _ _), h]
  case arm | disarm | retire | drop | clear =>
    dsimp only [State.serve, State.serveArm, State.serveDisarm, State.serveRetire, State.serveDrop,
      State.serveClear, State.serveRecord]
    repeat' split
    all_goals exact h.keep (.of_kept rfl rfl rfl)
  all_goals
    dsimp only [State.serve, State.servePlace, State.serveAmend, State.serveRead, State.serveStep,
      State.serveClassOp, State.serveReadChannel, State.serveFitResult, State.serveAirSet,
      State.serveTrackerSet, State.serveGeometrySet, State.serveLineSet, State.servePassSet,
      State.serveDriveSet, State.serveLinkSet]
    repeat' split
    all_goals exact h.keep (.of_channels rfl id id)

theorem stepInvariant : State.StepInvariant State.ReferenceSound :=
  { eventInvariant with
    arrive := fun a h => h.arrive a
    pulse := fun edge e h => h.pulse edge e
    serve := fun r h => h.serve r
    restartAll := fun {s} straps _ => restartAll s straps
    powerOn := powerOn }

end State.ReferenceSound

end Sys2Proof.Machine
end

/-! ### Every step keeps the records TAKEN within the pass's counts (07 R132, R133, R136) -/

section
namespace Sys2Proof.Machine

/-! #### Counting records -/

theorem countState_eq_countP (t : List LineRecord) (st : RecordState) :
    countState t st = t.countP (fun r => r.state == st) := List.countP_eq_length_filter.symm

/-- 07 R136: the captures the open pass has counted as takes; without a pass none. -/
def PassUnit.takes (u : PassUnit) : Nat :=
  (u.context.map (fun c => c.counters.taken + c.counters.late)).getD 0

theorem PassUnit.takes_of_closed {u : PassUnit} (h : u.context = none) : u.takes = 0 := by
  rw [PassUnit.takes, h]
  rfl

theorem PassUnit.takes_of_open {u : PassUnit} {c : PassContext} (h : u.context = some c) :
    u.takes = c.counters.taken + c.counters.late := by
  rw [PassUnit.takes, h]
  rfl

/-- 07 R130: a pass counter counts on, or stands at its top, which is more than a table holds. -/
theorem inc32_counts (n : Nat) : inc32 n = n + 1 ∨ 2048 ≤ inc32 n := by
  have htop : Config.top32 = 4294967295 := rfl
  unfold inc32 satInc
  split <;> omega

/-- 06 R92: the line numbers differ. -/
abbrev LineRecord.Apart (a b : LineRecord) : Prop := a.line ≠ b.line

theorem countP_or_le {α : Type} (p q : α → Bool) (t : List α) :
    t.countP (fun a => p a || q a) ≤ t.countP p + t.countP q := by
  induction t with
  | nil => exact Nat.zero_le _
  | cons a t ih =>
    have hhead : (if (p a || q a) = true then 1 else 0)
        ≤ (if p a = true then 1 else 0) + if q a = true then 1 else 0 := by
      cases p a <;> simp
    simp only [List.countP_cons]
    omega

/-- A replaced record adds at most itself to the records TAKEN: a line number names one record. -/
theorem countState_replaceLine {t : List LineRecord} (ht : t.Pairwise LineRecord.Apart) (line : Int)
    (new : LineRecord) (st : RecordState) : countState (replaceLine t line new) st ≤ countState t st + 1 := by
  have hone : t.countP (fun r => r.line == line) ≤ 1 := by
    have hnodup : (t.map LineRecord.line).Nodup := List.pairwise_map.mpr ht
    simpa [List.count, List.countP_map, Function.comp_def] using List.nodup_iff_count_le_one.mp hnodup line
  rw [countState_eq_countP, countState_eq_countP, replaceLine, List.countP_map]
  calc t.countP _
      ≤ t.countP (fun r => r.state == st || r.line == line) := List.countP_mono_left fun r _ => by
        by_cases hr : r.line = line <;> simp [hr]
    _ ≤ t.countP (fun r => r.state == st) + t.countP (fun r => r.line == line) := by
        exact countP_or_le _ _ t
    _ ≤ _ := Nat.add_le_add_left hone _

/-- A record that another replaces keeps its line number and is not made TAKEN. -/
structure LineRecord.Untaken (r r' : LineRecord) : Prop where
  line : r'.line = r.line
  state : r'.state = .taken → r.state = .taken

namespace LineRecord

variable (r : LineRecord)

theorem untaken_joinPass : r.Untaken r.joinPass := by
  refine ⟨(r.becomes_joinPass true).place.1, ?_⟩
  rw [joinPass_eq]
  split
  exacts [nofun, id]

theorem untaken_markCrossed (d : Direction) (xStart xFar : Int) : r.Untaken (r.markCrossed d xStart xFar) := by
  refine ⟨(r.becomes_markCrossed true d xStart xFar).place.1, ?_⟩
  rw [markCrossed_eq, crossingMark]
  split
  exacts [nofun, id]

theorem untaken_amendApply (f : AmendFields) : r.Untaken (amendApply f r) := by
  refine ⟨(amendApply_place f r).1, ?_⟩
  have hwindow : (amendSettings f r).windowChanged.state = .taken → r.state = .taken := by
    unfold windowChanged
    split
    iterate 2 nofun
    all_goals exact id
  unfold amendApply
  dsimp only
  repeat' split
  exacts [id, hwindow, id, hwindow]

/-- 06 R113: no operation of a request takes a record. -/
theorem untaken_classEffect {o : Bool} {n : Nat} {eff : LineRecord → RecordEffect} {r' : LineRecord}
    (he : classEffect o n = some eff) (h : eff r = .changed r') : r.Untaken r' := by
  refine ⟨(becomes_classEffect he h).place.1, fun ht => ?_⟩
  have happlied : (eff r).applied = some (some r') := by rw [h]; rfl
  unfold classEffect at he
  split at he <;> cases he
  · rw [armEffect_applied] at happlied
    split at happlied <;> cases happlied
    exact absurd ht (armedState_ne o).1
  · rw [disarmEffect_applied] at happlied
    split at happlied <;> cases happlied
    cases ht
  · rw [retireEffect_applied] at happlied
    split at happlied <;> cases happlied
    cases ht
  · rw [dropEffect_applied] at happlied
    split at happlied <;> cases happlied
  · rw [clearEffect_applied] at happlied
    split at happlied <;> cases happlied
    exact ht

/-- 06 R107, R108, R115: a pass that closes leaves no record TAKEN. -/
theorem commit_state_ne_taken : r.commit.state ≠ .taken := by
  unfold commit
  split
  · dsimp only
    split
    · nofun
    · repeat' split
      all_goals nofun
  · nofun
  all_goals simp [*]

theorem discard_state_ne_taken : r.discard.state ≠ .taken := by
  rw [discard_eq]
  split
  next => nofun
  next hst => exact (not_or.mp hst).1

theorem restart_state_ne_taken : r.restart.state ≠ .taken := by
  rw [restart_eq]
  split
  next => nofun
  next hst => exact (not_or.mp hst).1

end LineRecord

theorem state_of_matchCapture {t : List LineRecord} {d : Direction} {c : Capture} {r : LineRecord}
    (h : matchCapture t d c = some r) : r.state = .armed ∨ r.state = .taken ∨ r.state = .missed := by
  unfold matchCapture at h
  split at h
  · cases h
  · split at h
    · cases h
    · split at h
      iterate 3 cases h
      all_goals
        split at h <;> cases h
        simp [*]

/-! #### The table and the pass -/

/-- 07 R136, with what it rests on: a line number names one record, and a table holds 2048 at most. -/
structure State.TakesCounted (s : State) : Prop where
  lines : s.table.Pairwise LineRecord.Apart
  room : s.table.length ≤ 2048
  taken : countState s.table .taken ≤ s.pass.takes

namespace State.TakesCounted

variable {s t : State}

theorem congr (h : s.TakesCounted) (htable : t.table = s.table) (htakes : s.pass.takes ≤ t.pass.takes) :
    t.TakesCounted := by
  obtain ⟨hlines, hroom, htaken⟩ := h
  rw [← htable] at hlines hroom htaken
  exact ⟨hlines, hroom, htaken.trans htakes⟩

/-- Records keep their line numbers or leave the table. -/
theorem of_filterMap (h : s.TakesCounted) {f : LineRecord → Option LineRecord}
    (htable : t.table = s.table.filterMap f) (hline : ∀ r ∈ s.table, ∀ r', f r = some r' → r'.line = r.line)
    (htaken : countState t.table .taken ≤ t.pass.takes) : t.TakesCounted := by
  refine ⟨?_, ?_, htaken⟩
  · rw [htable, List.pairwise_filterMap]
    refine h.lines.imp_of_mem fun ha hb hab a' ha' b' hb' => ?_
    rw [LineRecord.Apart, hline _ ha a' ha', hline _ hb b' hb']
    exact hab
  · rw [htable]
    exact (List.length_filterMap_le _ _).trans h.room

/-- Records leave the table, or become others and are not made TAKEN. -/
theorem filterMap (h : s.TakesCounted) {f : LineRecord → Option LineRecord}
    (htable : t.table = s.table.filterMap f) (hf : ∀ r ∈ s.table, ∀ r', f r = some r' → r.Untaken r')
    (htakes : s.pass.takes ≤ t.pass.takes) : t.TakesCounted := by
  refine h.of_filterMap htable (fun r hr r' e => (hf r hr r' e).line) (le_trans ?_ (h.taken.trans htakes))
  rw [htable, countState_eq_countP, countState_eq_countP, List.countP_filterMap]
  refine List.countP_mono_left fun r hr => ?_
  cases hfr : f r with
  | none => simp
  | some r' => simpa using (hf r hr r' hfr).state

theorem map (h : s.TakesCounted) {f : LineRecord → LineRecord} (htable : t.table = s.table.map f)
    (hf : ∀ r ∈ s.table, r.Untaken (f r)) (htakes : s.pass.takes ≤ t.pass.takes) : t.TakesCounted :=
  h.filterMap (f := some ∘ f) (by rw [htable, List.filterMap_eq_map])
    (fun r hr _ e => Option.some.inj e ▸ hf r hr) htakes

/-- Of a table without a TAKEN record no count is asked. -/
theorem map_close (h : s.TakesCounted) {f : LineRecord → LineRecord} (htable : t.table = s.table.map f)
    (hline : ∀ r, (f r).line = r.line) (hf : ∀ r, (f r).state ≠ .taken) : t.TakesCounted := by
  refine h.of_filterMap (f := some ∘ f) (by rw [htable, List.filterMap_eq_map])
    (fun r _ _ e => Option.some.inj e ▸ hline r) ?_
  have hnone : countState t.table .taken = 0 := by
    rw [countState_eq_countP, htable, List.countP_map, List.countP_eq_zero]
    simp [hf]
  exact hnone ▸ Nat.zero_le _

/-- One record becomes another that is not made TAKEN. -/
theorem replace (h : s.TakesCounted) {r new : LineRecord} (hr : r ∈ s.table) (hnew : r.Untaken new)
    (htable : t.table = replaceLine s.table r.line new) (htakes : s.pass.takes ≤ t.pass.takes) :
    t.TakesCounted := by
  refine h.map htable (fun a ha => ?_) htakes
  split
  next e =>
    have hnodup : (s.table.map LineRecord.line).Nodup := List.pairwise_map.mpr h.lines
    exact List.inj_on_of_nodup_map hnodup ha hr e ▸ hnew
  next => exact ⟨rfl, id⟩

/-! #### The operations -/

theorem finishWait (h : s.TakesCounted) (o : RerefOutcome) (c : Option RerefCapture)
    (a : Option RerefApplied) : (s.finishWait o c a).TakesCounted := by
  obtain ⟨_, _, e⟩ := s.finishWait_shape o c a
  exact h.congr (by rw [e]) (by rw [e])

theorem epochMoved (h : s.TakesCounted) (ch : Channel) : (s.epochMoved ch).TakesCounted := by
  obtain ⟨_, e⟩ := s.epochMoved_shape ch
  exact h.congr (by rw [e]) (by rw [e])

/-- 07 R120: a pass opens while none is open, so no record is TAKEN. -/
theorem openPass (h : s.TakesCounted) (hclosed : s.passOpen = false) (d : Direction) (origin : PassMode)
    (xStart xFar : Int) : (s.openPass d origin xStart xFar).TakesCounted := by
  refine h.map rfl (fun r _ => r.untaken_joinPass) ?_
  rw [PassUnit.takes_of_closed (State.passOpen_eq_false_iff.mp hclosed)]
  exact Nat.zero_le _

theorem markCrossings (h : s.TakesCounted) : s.markCrossings.TakesCounted := by
  unfold State.markCrossings
  split
  · exact h
  · exact h.map rfl (fun r _ => r.untaken_markCrossed _ _ _) le_rfl

theorem closeComplete (h : s.TakesCounted) (reason : PassReason) :
    (s.closeComplete reason).TakesCounted := by
  unfold State.closeComplete
  split
  · exact h
  · exact h.map_close rfl (fun r => (r.becomes_commit true true).place.1) fun r => r.commit_state_ne_taken

theorem closeAborted (h : s.TakesCounted) (reason : PassReason) : (s.closeAborted reason).TakesCounted := by
  by_cases hclosed : s.pass.context = none
  · rwa [State.closeAborted_of_closed hclosed]
  · obtain ⟨-, htable, -⟩ := State.closeAborted_of_open hclosed reason
    exact h.map_close htable (fun r => (r.becomes_discard true true).place.1)
      fun r => r.discard_state_ne_taken

/-- The context of the open pass changes, its counters stay. -/
theorem setContext {c c' : PassContext} (h : s.TakesCounted) (hc : s.pass.context = some c)
    (hcount : c'.counters = c.counters) : (s.setContext (some c')).TakesCounted := by
  refine h.congr rfl ?_
  rw [PassUnit.takes_of_open hc, PassUnit.takes_of_open (c := c') rfl, hcount]

theorem advanceFar (h : s.TakesCounted) (x : Int) : (s.advanceFar x).TakesCounted := by
  unfold State.advanceFar
  split
  · exact h
  next c hc => exact markCrossings (h.setContext hc rfl)

theorem settleTest (h : s.TakesCounted) (dx : Int) : (s.settleTest dx).TakesCounted := by
  unfold State.settleTest
  split
  · exact h
  next c hc =>
    have hset (run : Nat) : (s.setContext (some { c with settleRun := run })).TakesCounted :=
      h.setContext hc rfl
    dsimp only
    generalize (if decide (dx.natAbs < s.pass.stopThr) = true then satInc 65535 c.settleRun else 0) = run
    repeat' split
    exacts [(hset run).closeComplete _, (hset run).closeComplete _, hset run, hset run]

theorem autoOpen (h : s.TakesCounted) (x prev : Int) : (s.autoOpen x prev).TakesCounted := by
  unfold State.autoOpen
  dsimp only
  split
  next hstart =>
    obtain ⟨-, hclosed, -⟩ := hstart
    exact (h.openPass hclosed _ _ _ _).markCrossings
  next => exact h

theorem runCheck (h : s.TakesCounted) : s.runCheck.TakesCounted := by
  have hprev {s : State} (h : s.TakesCounted) (x : Option Int) : (s.setPrevX x).TakesCounted :=
    h.congr rfl le_rfl
  unfold State.runCheck
  dsimp only
  split
  · refine hprev ?_ _
    split
    exacts [h.advanceFar _, ((h.advanceFar _).settleTest _).autoOpen _ _]
  · exact hprev h _

/-- Replacing the counters of the open pass by counters with as many takes. -/
theorem counted (h : s.TakesCounted) {p : PassContext} (hp : s.pass.context = some p) {n : PassCounters}
    (hn : p.counters.taken + p.counters.late ≤ n.taken + n.late) :
    (s.withPass (s.pass.counted p n)).TakesCounted := by
  refine h.congr rfl ?_
  rwa [PassUnit.takes_of_open hp]

/-- 07 R132, R133, R136: a record more is TAKEN, and a take more is counted. -/
theorem take (h : s.TakesCounted) {p : PassContext} (hp : s.pass.context = some p) {n : PassCounters}
    {r new : LineRecord} (hline : new.line = r.line)
    (hn : n.taken = inc32 p.counters.taken ∧ n.late = p.counters.late
      ∨ n.taken = p.counters.taken ∧ n.late = inc32 p.counters.late) :
    ((s.withTable (replaceLine s.table r.line new)).withPass (s.pass.counted p n)).TakesCounted := by
  refine h.of_filterMap (f := some ∘ fun a => if a.line = r.line then new else a)
    (by rw [List.filterMap_eq_map]; rfl) (fun a _ a' e => ?_) ?_
  · cases e
    dsimp only
    split
    next e => rw [hline, e]
    next => rfl
  · have hmore := countState_replaceLine h.lines r.line new .taken
    have hroom : countState (replaceLine s.table r.line new) .taken ≤ 2048 :=
      ((List.length_filter_le _ _).trans_eq (List.length_map _)).trans h.room
    have hbound := h.taken
    rw [PassUnit.takes_of_open hp] at hbound
    change _ ≤ n.taken + n.late
    rw [State.withPass_table, State.withTable_table]
    rcases hn with ⟨htaken, hlate⟩ | ⟨htaken, hlate⟩
    · have := inc32_counts p.counters.taken
      omega
    · have := inc32_counts p.counters.late
      omega

theorem tableCapture (h : s.TakesCounted) (c : Capture) : (s.tableCapture c).TakesCounted := by
  cases hp : s.pass.context with
  | none =>
    rw [State.tableCapture_of_closed hp]
    exact h.congr rfl le_rfl
  | some p =>
    cases hm : matchCapture s.table p.direction c with
    | none =>
      rw [State.tableCapture_of_stray hp hm]
      exact h.counted hp le_rfl
    | some r =>
      rcases state_of_matchCapture hm with hr | hr | hr
      · rw [State.tableCapture_of_armed hp hm hr]
        exact h.take hp rfl (.inl ⟨rfl, rfl⟩)
      · rw [State.tableCapture_of_taken hp hm hr]
        have hdouble := h.replace (t := s.withTable (replaceLine s.table r.line r.markDouble))
          (mem_of_matchCapture hm) (new := r.markDouble) ⟨rfl, id⟩ rfl le_rfl
        exact hdouble.counted hp le_rfl
      · rw [State.tableCapture_of_missed hp hm hr]
        exact h.take hp rfl (.inr ⟨rfl, rfl⟩)

theorem rerefCapture (h : s.TakesCounted) (c : Capture) : (s.rerefCapture c).TakesCounted := by
  unfold State.rerefCapture
  split
  · exact h
  · split
    · exact h.congr rfl le_rfl
    · split
      · exact h.finishWait _ _ _
      · refine finishWait ?_ _ _ _
        exact h.congr rfl le_rfl

theorem completeCapture (h : s.TakesCounted) : s.completeCapture.TakesCounted := by
  have hline (l : LineInput) : (s.withLine l).TakesCounted := h.congr rfl le_rfl
  unfold State.completeCapture State.routeCapture
  split
  · exact h
  · split
    · dsimp only
      split
      exacts [(hline _).rerefCapture _, (hline _).tableCapture _]
    · split
      exacts [hline _, h]

/-- The events that are due: a check and a capture reach the table, an aborted pass discards it. -/
theorem eventInvariant : State.EventInvariant State.TakesCounted where
  frame h := h.congr rfl le_rfl
  ageStep {s} h := by
    obtain ⟨_, _, e⟩ := s.ageStep_shape
    exact e ▸ h.congr rfl le_rfl
  fitStart {s} h := by
    obtain ⟨_, _, _, e⟩ := s.fitStart_shape
    exact e ▸ h.congr rfl le_rfl
  fitFinish {s} h := by
    obtain ⟨_, _, _, e⟩ := s.fitFinish_shape
    exact e ▸ h.congr rfl le_rfl
  fitTimeout {s} h := by
    obtain ⟨_, _, e⟩ := s.fitTimeout_shape
    exact e ▸ h.congr rfl le_rfl
  fillSlot h := h.congr rfl le_rfl
  installPending {s} ch h := by
    obtain ⟨_, _, _, e⟩ := s.installPending_shape ch
    exact e ▸ h.congr rfl le_rfl
  runCheck h := h.runCheck
  completeCapture h := h.completeCapture
  closeAborted r h := h.closeAborted r
  finishWait o c a h := h.finishWait o c a

theorem arrive (h : s.TakesCounted) (a : SampleInput) : (s.arrive a).TakesCounted := by
  rw [State.arrive_eq]
  refine eventInvariant.endings s a.captureFirst ?_
  obtain ⟨_, _, _, _, e, -⟩ := s.beforeEndings_eq a
  rw [e]
  exact h.congr rfl le_rfl

/-- 07 R135: a crowded pulse is no take. -/
theorem countCrowded (h : s.TakesCounted) : s.countCrowded.TakesCounted := by
  cases hp : s.pass.context with
  | none =>
    refine h.congr rfl ?_
    rw [PassUnit.takes_of_closed hp]
    exact Nat.zero_le _
  | some p =>
    rw [State.countCrowded, State.count_of_open hp]
    exact h.counted hp le_rfl

theorem pulse (h : s.TakesCounted) (edge : Edge) (e : Nat) : (s.pulse edge e).TakesCounted := by
  unfold State.pulse
  repeat' split
  exacts [h.countCrowded, h.congr rfl le_rfl, h]

theorem restartAll (h : s.TakesCounted) (straps : Nat) : (s.restartAll straps).TakesCounted := by
  rw [State.restartAll_eq]
  exact h.map_close rfl (fun r => (r.becomes_restart true true).place.1) fun r => r.restart_state_ne_taken

theorem powerOn (s : State) (straps : Nat) : (s.powerOn straps).TakesCounted :=
  ⟨.nil, Nat.zero_le _, Nat.zero_le _⟩

/-! #### Requests -/

/-- 06 R97, R98: a record of a new line number joins a table with a place left, and is not TAKEN. -/
theorem servePlace (h : s.TakesCounted) (f : PlaceFields) : (s.servePlace f).state.TakesCounted := by
  unfold State.servePlace
  split
  · exact h
  split
  · exact h
  next hfresh =>
  split
  · exact h
  next hroom =>
  split
  · exact h
  split
  · exact h
  obtain ⟨hlines, -, htaken⟩ := h
  have hnew : ∀ r ∈ s.table, f.line ≠ r.line := fun r hr =>
    (findLine_eq_none_iff.mp (Option.not_isSome_iff_eq_none.mp hfresh) r hr).symm
  have hperm := insertRecord_perm (placeRecord f s.passOpen) s.table
  refine ⟨?_, ?_, ?_⟩
  · exact (hperm.pairwise_iff Ne.symm).mpr (.cons hnew hlines)
  · rw [State.withTable_table, hperm.length_eq]
    exact Nat.lt_of_not_le hroom
  · have hstate : (placeRecord f s.passOpen).state ≠ .taken := fun e =>
      nomatch (LineRecord.sound_placeRecord f s.passOpen).pending.mpr e
    rw [State.withTable_table, countState_eq_countP, hperm.countP_eq,
      List.countP_cons_of_neg (by simpa using hstate), ← countState_eq_countP]
    exact htaken

theorem serveAmend (h : s.TakesCounted) (f : AmendFields) : (s.serveAmend f).state.TakesCounted := by
  unfold State.serveAmend
  split
  · exact h
  split
  · exact h
  next r hfind =>
    obtain ⟨hr, hline⟩ := line_of_findLine hfind
    repeat' split
    iterate 3 exact h
    exact h.replace hr (r.untaken_amendApply f) (by rw [hline]; rfl) le_rfl

/-- 06 R99, R102 to R105: a request that names one record has the effect of an operation of CLASS_OP. -/
theorem serveRecord (h : s.TakesCounted) (line : Int) {n : Nat} {eff : LineRecord → RecordEffect}
    (heff : classEffect s.passOpen n = some eff) : (s.serveRecord line eff).state.TakesCounted := by
  unfold State.serveRecord
  split
  · exact h
  next r hfind =>
    obtain ⟨hr, rfl⟩ := line_of_findLine hfind
    split
    · exact h
    · exact h
    next r' hchanged => exact h.replace hr (r.untaken_classEffect heff hchanged) rfl le_rfl
    · refine h.filterMap (f := Option.guard fun a => !(a.line == r.line)) ?_ (fun a _ a' e => ?_) le_rfl
      · rw [List.filterMap_eq_filter]
        rfl
      · obtain rfl := (Option.guard_eq_some_iff.mp e).1
        exact ⟨rfl, id⟩

theorem serveClassOp (h : s.TakesCounted) (mask operation : Nat) :
    (s.serveClassOp mask operation).state.TakesCounted := by
  unfold State.serveClassOp
  split
  · exact h
  next eff heff =>
    refine h.filterMap rfl (fun r _ r' e => ?_) le_rfl
    split at e
    · cases he : eff r with
      | changed a =>
        rw [he] at e
        cases e
        exact r.untaken_classEffect heff he
      | refused | same =>
        rw [he] at e
        cases e
        exact ⟨rfl, id⟩
      | removed =>
        rw [he] at e
        cases e
    · cases e
      exact ⟨rfl, id⟩

theorem disableChannel (h : s.TakesCounted) (ch : Channel) : (s.disableChannel ch).TakesCounted := by
  have hfit : ((s.setCounter ch (s.chan ch).counter.disable).fitDisable ch).TakesCounted := by
    obtain ⟨_, _, _, e⟩ := (s.setCounter ch (s.chan ch).counter.disable).fitDisable_shape ch
    rw [e]
    exact h.congr rfl le_rfl
  unfold State.disableChannel State.measuringLost
  dsimp only
  split
  iterate 2 exact (hfit.closeAborted _).finishWait _ _ _
  all_goals exact hfit

theorem serveChannelSet (h : s.TakesCounted) (f : ChannelFields) :
    (s.serveChannelSet f).state.TakesCounted := by
  have hset (ch : Channel) (u : ChannelUnit) : (s.setChan ch u).TakesCounted := h.congr rfl le_rfl
  unfold State.serveChannelSet
  split
  · exact h
  next q _ =>
    have hset := hset q.channel ((s.chan q.channel).settings q f)
    dsimp only
    split
    · refine epochMoved ?_ q.channel
      exact hset.congr rfl le_rfl
    · split
      exacts [hset.disableChannel _, hset]

theorem servePreset (h : s.TakesCounted) (channel : Nat) (p : Int) :
    (s.servePreset channel p).state.TakesCounted := by
  have hpreset (ch : Channel) (c : Counter) : ((s.setCounter ch c).epochMoved ch).TakesCounted := by
    refine epochMoved ?_ ch
    exact h.congr rfl le_rfl
  unfold State.servePreset
  repeat' split
  iterate 6 exact h
  exacts [hpreset _ _, h, hpreset _ _]

theorem servePassOpen (h : s.TakesCounted) (direction : Nat) :
    (s.servePassOpen direction).state.TakesCounted := by
  unfold State.servePassOpen
  repeat' split
  iterate 4 exact h
  next hclosed _ => exact h.openPass (Bool.eq_false_iff.mpr hclosed) _ _ _ _

/-- 09 R158 step 3: the requests of the table, of the pass and of the channels reach the table; the others
leave the table and the pass. -/
theorem serve (h : s.TakesCounted) (r : Request) : (s.serve r).state.TakesCounted := by
  cases r
  case place f => exact h.servePlace f
  case amend f => exact h.serveAmend f
  case arm l => exact h.serveRecord l (n := 0) rfl
  case disarm l => exact h.serveRecord l (n := 1) rfl
  case retire l => exact h.serveRecord l (n := 2) rfl
  case drop l => exact h.serveRecord l (n := 3) rfl
  case clear l => exact h.serveRecord l (n := 4) rfl
  case classOp m o => exact h.serveClassOp m o
  case channelSet f => exact h.serveChannelSet f
  case preset c p => exact h.servePreset c p
  case fit c k =>
    obtain ⟨_, _, _, e⟩ := s.serveFit_shape c k
    rw [State.serve, e]
    exact h.congr rfl le_rfl
  case passOpen d => exact h.servePassOpen d
  case passClose =>
    dsimp only [State.serve, State.servePassClose]
    split
    exacts [h, h.closeComplete _]
  case passAbort =>
    dsimp only [State.serve, State.servePassAbort]
    split
    exacts [h, h.closeAborted _]
  case rerefCancel =>
    dsimp only [State.serve, State.serveRerefCancel]
    split
    exacts [h.finishWait _ _ _, h]
  all_goals
    dsimp only [State.serve, State.serveRead, State.serveStep, State.serveReadChannel, State.serveFitResult,
      State.serveAirSet, State.serveTrackerSet, State.serveGeometrySet, State.serveLineSet,
      State.servePassSet, State.serveReref, State.serveDriveSet, State.serveLinkSet]
    repeat' split
    all_goals exact h.congr rfl le_rfl

theorem stepInvariant : State.StepInvariant State.TakesCounted :=
  { eventInvariant with
    arrive := fun a h => h.arrive a
    pulse := fun edge e h => h.pulse edge e
    serve := fun r h => h.serve r
    restartAll := fun straps h => h.restartAll straps
    powerOn := powerOn }

end State.TakesCounted

theorem State.TakesCounted.of_bounded {s : State} (hbound : s.TakenBounded) (hpending : s.PendingSound)
    (hordered : s.TableOrdered) : s.TakesCounted := by
  obtain ⟨hroom, hpair⟩ := hordered
  obtain ⟨-, hidle⟩ := hpending
  refine ⟨hpair.imp fun ⟨hlt, _⟩ => hlt.ne, hroom, ?_⟩
  cases hc : s.pass.context with
  | some c => exact (hbound c hc).trans_eq (PassUnit.takes_of_open hc).symm
  | none =>
    have hnone : countState s.table .taken = 0 := by
      rw [countState_eq_countP, List.countP_eq_zero]
      exact fun r hr => by simpa using (hidle hc r hr).1
    exact hnone ▸ Nat.zero_le _

theorem State.TakesCounted.takenBounded {s : State} (h : s.TakesCounted) : s.TakenBounded := fun _ hc =>
  h.taken.trans_eq (PassUnit.takes_of_open hc)

/-- Settles O59: the reference of pass and wait is one step invariant, the count of the takes another. -/
theorem passStaysBounded : Obligations.PassStaysBounded := by
  rintro s t ⟨hpass, hsignal, hbound, hpending, hordered⟩ e
  obtain ⟨hpass', hsignal'⟩ := State.ReferenceSound.stepInvariant.step ⟨hpass, hsignal⟩ e
  have htaken := State.TakesCounted.stepInvariant.step (.of_bounded hbound hpending hordered) e
  exact ⟨hpass', hsignal', htaken.takenBounded⟩

end Sys2Proof.Machine
end

/-! ### The requests of reference control (08 R139, R140, R144, R148) -/

section
namespace Sys2Proof.Machine

/-! #### The tests of REREF (08 R139) -/

/-- 08 R139: a state in which a channel gives reference control no signal. -/
def ChannelState.noSignal : ChannelState → Bool
  | .off | .dark => true
  | .unreferenced | .tracking | .coasting => false

theorem ChannelState.noSignal_iff {st : ChannelState} : st.noSignal = true ↔ st = .off ∨ st = .dark := by
  cases st <;> simp [noSignal]

/-- 08 R139: XL or XR gives no signal. -/
def State.lacksSignal (s : State) : Bool :=
  (s.chan .xl).counter.state.noSignal || (s.chan .xr).counter.state.noSignal

theorem State.lacksSignal_eq_false_iff {s : State} :
    s.lacksSignal = false ↔ ∀ ch, ch = .xl ∨ ch = .xr →
      (s.chan ch).counter.state ≠ .off ∧ (s.chan ch).counter.state ≠ .dark := by
  simp [State.lacksSignal, Bool.eq_false_iff, ChannelState.noSignal_iff]

/-- 08 R139: the line numbers and timeouts that a REREF may carry. -/
abbrev RerefInRange (line : Int) (sec : Nat) : Prop :=
  (-1000000 ≤ line ∧ line ≤ 1000000) ∧ 1 ≤ sec ∧ sec ≤ 600

theorem rerefOut_iff {line : Int} {sec : Nat} :
    (!lineInRange line || !(decide (1 ≤ sec) && decide (sec ≤ 600))) = true ↔ ¬RerefInRange line sec := by
  rw [lineInRange, ← Bool.not_and, Bool.not_eq_true', Bool.eq_false_iff]
  simp only [ne_eq, Bool.and_eq_true, decide_eq_true_iff]

/-- 08 R140: the wait that a REREF for a record begins. -/
def State.newWait (s : State) (line : Int) (sec : Nat) (r : LineRecord) : Wait :=
  { line := line
    targetFwd := r.fwd.map (fun q => roundDiv q.sumX q.n)
    targetRev := r.rev.map (fun q => roundDiv q.sumX q.n)
    timeoutS := sec, accepting := s.newestIndex, validFrom := nextIndex s.newestIndex, discarded := 0 }

section
variable {s : State} {line : Int} {sec : Nat} {r : LineRecord}

theorem State.serveReref_of_out (hout : ¬RerefInRange line sec) :
    s.serveReref line sec = s.refuse .range :=
  if_pos (rerefOut_iff.mpr hout)

variable (hrange : RerefInRange line sec)
include hrange

theorem State.serveReref_of_waiting (hwait : s.reref.wait ≠ none) :
    s.serveReref line sec = s.refuse .state :=
  (if_neg (fun hout => rerefOut_iff.mp hout hrange)).trans (if_pos (Option.isSome_iff_ne_none.mpr hwait))

variable (hidle : s.reref.wait = none)
include hidle

/-- 08 R139: while reference control is IDLE the pass, the channels and the table are tested. -/
theorem State.serveReref_of_idle :
    s.serveReref line sec =
      if s.passOpen then s.refuse .inPass
      else if s.lacksSignal then s.refuse .state
      else match findLine s.table line with
        | none => s.refuse .notFound
        | some r =>
          if !r.datum || (r.fwd.isNone && r.rev.isNone) then s.refuse .state
          else
            { state := s.withReref { s.reref with wait := some (s.newWait line sec r) }
              status := .accepted } :=
  (if_neg (fun hout => rerefOut_iff.mp hout hrange)).trans
    (if_neg (Bool.eq_false_iff.mp (State.waiting_eq_false_iff.mpr hidle)))

theorem State.serveReref_of_open (hopen : s.pass.context ≠ none) :
    s.serveReref line sec = s.refuse .inPass :=
  (State.serveReref_of_idle hrange hidle).trans (if_pos (Option.isSome_iff_ne_none.mpr hopen))

variable (hclosed : s.pass.context = none)
include hclosed

theorem State.serveReref_of_unseen (hsignal : s.lacksSignal = true) :
    s.serveReref line sec = s.refuse .state := by
  simp [State.serveReref_of_idle hrange hidle, State.passOpen_eq_false_iff.mpr hclosed, hsignal]

variable (hsignal : s.lacksSignal = false)
include hsignal

theorem State.serveReref_of_absent (hline : findLine s.table line = none) :
    s.serveReref line sec = s.refuse .notFound := by
  simp [State.serveReref_of_idle hrange hidle, State.passOpen_eq_false_iff.mpr hclosed, hsignal, hline]

variable (hline : findLine s.table line = some r)
include hline

theorem State.serveReref_of_targetless (hr : r.datum = false ∨ (r.fwd = none ∧ r.rev = none)) :
    s.serveReref line sec = s.refuse .state := by
  simp [State.serveReref_of_idle hrange hidle, State.passOpen_eq_false_iff.mpr hclosed, hsignal, hline, hr]

/-- 08 R140: a REREF that passes the tests begins a wait. -/
theorem State.serveReref_of_target (hdatum : r.datum = true) (hhalf : r.fwd ≠ none ∨ r.rev ≠ none) :
    s.serveReref line sec =
      { state := s.withReref { s.reref with wait := some (s.newWait line sec r) }
        status := .accepted } := by
  have htarget : ¬(r.fwd = none ∧ r.rev = none) := not_and_or.mpr hhalf
  simp [State.serveReref_of_idle hrange hidle, State.passOpen_eq_false_iff.mpr hclosed, hsignal, hline,
    hdatum, htarget]

end

/-- 08 R144: a cancel finds a wait, or is refused. -/
theorem State.serveRerefCancel_of_idle {s : State} (h : s.reref.wait = none) :
    s.serveRerefCancel = s.refuse .state :=
  if_neg (Bool.eq_false_iff.mp (State.waiting_eq_false_iff.mpr h))

theorem State.serveRerefCancel_of_waiting {s : State} (h : s.reref.wait ≠ none) :
    s.serveRerefCancel = { state := s.finishWait .failedCancelled none none, status := .ok } :=
  if_pos (Option.isSome_iff_ne_none.mpr h)

/-- Settles O55: each clause is the first test of its request that does not pass, or what the request does. -/
theorem rerefRequestsServed : Obligations.RerefRequestsServed := by
  intro s h q hordered
  obtain ⟨-, hbefore⟩ := hordered
  refine ⟨s.newestIndex, fun n hn => State.newestIndex_of_some hn, fun line sec ranges signal hranges
    hsignal => ?reref, fun hidle => ?idle, fun w hw => ?cancel⟩
  case reref =>
    have refused {st : Status} (hst : st.taken = false) (hv : s.serveReref line sec = s.refuse st) :=
      exec_of_refused (i := .reref h line sec) q (.reref line sec) rfl hv hst
    rw [← State.lacksSignal_eq_false_iff] at hsignal
    rw [hranges, hsignal, Bool.not_eq_false]
    refine ⟨fun hout => refused rfl (State.serveReref_of_out hout),
      fun hrange hwait => refused rfl (State.serveReref_of_waiting hrange hwait),
      fun hrange hidle hopen => refused rfl (State.serveReref_of_open hrange hidle hopen),
      fun hrange hidle hclosed hdark => refused rfl (State.serveReref_of_unseen hrange hidle hclosed hdark),
      fun hrange hidle hclosed hlit habsent => refused rfl
        (State.serveReref_of_absent hrange hidle hclosed hlit (findLine_eq_none_iff.mpr habsent)),
      fun hrange hidle hclosed hlit r hr hline => ?_⟩
    have hfind := findLine_of_mem hbefore hr hline
    exact ⟨fun hnone => refused rfl
        (State.serveReref_of_targetless hrange hidle hclosed hlit hfind hnone),
      fun hdatum hhalf => exec_of_taken q (.reref line sec) rfl
        (State.serveReref_of_target hrange hidle hclosed hlit hfind hdatum hhalf) rfl rfl⟩
  case idle =>
    exact exec_of_refused q .rerefCancel rfl (State.serveRerefCancel_of_idle hidle) rfl
  case cancel =>
    have hcancel := State.serveRerefCancel_of_waiting (hw ▸ Option.some_ne_none w)
    rw [State.finishWait_eq hw] at hcancel
    exact exec_of_taken q .rerefCancel rfl hcancel rfl rfl

end Sys2Proof.Machine
end

/-! ### What an arrival makes of a wait (08 R143, R145, R148) -/

section
namespace Sys2Proof.Machine

/-! #### The channel: DARK is a new epoch (02 R22, R24, R25) -/

namespace Counter

variable {c : Counter} {φ amp : Nat}

theorem coast_ne_dark (c : Counter) (run : Nat) : (c.coast run).counter.state ≠ .dark := by
  unfold coast
  dsimp only
  split <;> nofun

/-- 02 R22, R24: only a sample below the floor takes a counter to DARK. -/
theorem weak_of_darkened (hlit : c.state ≠ .dark) (h : (c.arrive φ amp).counter.state = .dark) :
    amp < c.floor := by
  by_contra hweak
  unfold arrive at h
  split at h
  next => exact hlit h
  next hdark => exact hlit hdark
  all_goals
    rw [if_pos (not_lt.mp hweak)] at h
    split at h <;> cases h

/-- 02 R22, R24: a counter that becomes DARK counts an epoch. -/
theorem epoch_of_darkened (hlit : c.state ≠ .dark) (h : (c.arrive φ amp).counter.state = .dark) :
    (c.arrive φ amp).counter.epoch = c.epoch + 1 := by
  obtain ⟨hunref, htracking, hcoasting⟩ := arrive_of_weak (φ := φ) (weak_of_darkened hlit h)
  cases hs : c.state with
  | off =>
    rw [arrive_of_off hs] at h
    exact absurd h hlit
  | dark => exact absurd hs hlit
  | unreferenced =>
    rw [hunref hs]
    rfl
  | tracking =>
    rw [htracking hs] at h
    exact absurd h (coast_ne_dark c 1)
  | coasting =>
    rw [hcoasting hs] at h ⊢
    split at h
    next => exact absurd h (coast_ne_dark c _)
    next hspent =>
      rw [if_neg hspent]
      rfl

end Counter

theorem ChannelUnit.epoch_of_darkened {u : ChannelUnit} {p : Pair} (hlit : u.counter.state ≠ .dark)
    (h : (u.arrive p).unit.counter.state = .dark) :
    (u.arrive p).unit.counter.epoch ≠ u.counter.epoch := by
  by_cases hoff : u.counter.state = .off
  · rw [ChannelUnit.arrive_of_off hoff] at h
    exact absurd h hlit
  · rw [ChannelUnit.arrive_of_on hoff] at h ⊢
    rw [Counter.epoch_of_darkened hlit h]
    simp

/-! #### The two measuring channels -/

section
variable {s t : State}

theorem State.measuringEpochs_eq_iff :
    t.measuringEpochs = s.measuringEpochs ↔
      ∀ m, m = .xl ∨ m = .xr → (t.chan m).counter.epoch = (s.chan m).counter.epoch := by
  simp [State.measuringEpochs]

theorem signalLost_iff :
    signalLost s t = true ↔ ∃ m, (m = .xl ∨ m = .xr)
      ∧ (t.chan m).counter.state = .dark ∧ (s.chan m).counter.state ≠ .dark := by
  simp [signalLost, becameDark, or_and_right, exists_or]

end

/-! #### A capture that is discarded before the ending (05 R84, 08 R145) -/

/-- What a capture that a wait discards turns on: the newest sample, the window, the line input and
reference control. -/
def State.waitView (s : State) : Option Nat × AxisUnit × LineInput × RerefUnit :=
  (s.newest, s.axis, s.line, s.reref)

section
variable (s : State)

theorem State.waitView_takeAgeTick : s.takeAgeTick.waitView = s.waitView := by
  unfold State.takeAgeTick
  split
  · obtain ⟨_, _, e⟩ := (s.withArrival { s.arrival with ageTick := false }).ageStep_shape
    rw [e]
    rfl
  · rfl

theorem State.waitView_takeFitBegin : s.takeFitBegin.waitView = s.waitView := by
  unfold State.takeFitBegin
  split
  · obtain ⟨_, _, _, e⟩ := (s.withArrival { s.arrival with fitBegin := false }).fitStart_shape
    rw [e]
    rfl
  · rfl

theorem State.waitView_takeResetInstall (ch : Channel) : (s.takeResetInstall ch).waitView = s.waitView := by
  unfold State.takeResetInstall
  split
  · obtain ⟨_, _, _, e⟩ := (s.withArrival
      { s.arrival with resetInstall := s.arrival.resetInstall.set ch false }).installPending_shape ch
    rw [e]
    rfl
  · rfl

theorem State.waitView_takeResetInstalls : s.takeResetInstalls.waitView = s.waitView := by
  simp only [State.takeResetInstalls, State.waitView_takeResetInstall]

theorem State.waitView_takeCheck : s.takeCheck.waitView = s.waitView := by
  unfold State.takeCheck
  split
  · obtain ⟨_, _, _, e⟩ :=
      (s.takeAgeTick.withArrival { s.takeAgeTick.arrival with check := false }).runCheck_shape
    rw [← s.waitView_takeAgeTick, e]
    rfl
  · rfl

theorem State.waitView_takeReport : s.takeReport.waitView = s.waitView := by
  unfold State.takeReport
  split
  · rw [← s.waitView_takeAgeTick]
    rfl
  · rfl

end

section
variable {s : State} {w : Wait} {b : InFlight} {e0 e1 : WindowEntry}

/-- 05 R84, R89: what is due before a capture that a wait receives is taken, and the capture completed. -/
theorem State.takeCapture_completes (hdue : s.captureDue = true) :
    ∃ u : State, s.takeCapture = u.completeCapture ∧ u.waitView = s.waitView := by
  rw [State.takeCapture, if_pos hdue]
  dsimp only
  refine ⟨_, rfl, ?_⟩
  split
  · simp only [State.waitView_takeReport, State.waitView_takeCheck, State.waitView_takeResetInstalls,
      State.waitView_takeFitBegin, State.waitView_takeAgeTick]
  · exact s.waitView_takeAgeTick

/-- 08 R145: the capture of a bracket before the valid-from sample is completed and discarded. -/
theorem State.completeCapture_of_early (hw : s.reref.wait = some w) (hb : s.line.inFlight = some b)
    (h0 : s.axis.entry b.k = some e0) (h1 : s.axis.entry (nextIndex b.k) = some e1)
    (hk : b.k < w.validFrom) :
    s.completeCapture = (s.withLine { s.line with inFlight := none }).withReref
      { s.reref with wait := some { w with discarded := satInc Config.top16 w.discarded } } := by
  have hentries : s.bracketEntries b = some (e0, e1) := by rw [State.bracketEntries, h0, h1]
  have hwaiting : (s.withLine { s.line with inFlight := none }).waiting = true := congrArg Option.isSome hw
  have hbefore : e0.index < w.validFrom := AxisUnit.index_of_entry h0 ▸ hk
  simp only [State.completeCapture, hb, hentries, State.routeCapture, hwaiting, if_true]
  exact State.rerefCapture_of_early hw hbefore

theorem State.waitView_takeCapture_of_early (hw : s.reref.wait = some w) (hb : s.line.inFlight = some b)
    (h0 : s.axis.entry b.k = some e0) (h1 : s.axis.entry (nextIndex b.k) = some e1)
    (hk : b.k < w.validFrom) :
    s.takeCapture.waitView = (s.newest, s.axis, { s.line with inFlight := none },
      { s.reref with wait := some { w with discarded := satInc Config.top16 w.discarded } }) := by
  have hdue : s.captureDue = true := by simp [State.captureDue, hb, State.bracketEntries, h0, h1]
  obtain ⟨u, hcomplete, hview⟩ := State.takeCapture_completes hdue
  simp only [State.waitView, Prod.mk.injEq] at hview
  obtain ⟨hnewest, haxis, hline, hreref⟩ := hview
  rw [← haxis] at h0 h1
  rw [hcomplete, State.completeCapture_of_early (hreref ▸ hw) (hline ▸ hb) h0 h1 hk, ← hnewest, ← haxis,
    ← hline, ← hreref]
  rfl

end

/-! #### The endings of an arrival (08 R143) -/

theorem State.waitView_closeAborted (s : State) (r : PassReason) :
    (s.closeAborted r).waitView = s.waitView := by
  obtain ⟨_, _, _, e⟩ := s.closeAborted_shape r
  rw [e]
  rfl

section
variable {s before : State} {first : Bool}

/-- With nothing in flight no capture can come first (log entry 5). -/
theorem State.endings_of_no_flight (h : s.line.inFlight = none) :
    s.endings before first = s.endings before false := by
  have hnone : s.takeCapture = s := State.takeCapture_of_not_due (by rw [State.captureDue, h])
  simp only [State.endings, hnone, ite_self]

/-- 08 R143: an arrival that takes neither XL nor XR to DARK ends no wait. -/
theorem State.endings_of_signal_kept (hkept : signalLost before s = false)
    (hfirst : first = false ∨ s.pass.context = none) : (s.endings before first).reref = s.reref := by
  unfold State.endings
  dsimp only
  rw [hkept, Bool.and_false, if_neg Bool.false_ne_true, Bool.or_false]
  rcases hfirst with rfl | hclosed
  · rw [Bool.false_and, if_neg Bool.false_ne_true]
    split
    · obtain ⟨_, _, _, e⟩ := s.closeAborted_shape .referenceLost
      rw [e]
    · rfl
  · rw [State.passOpen_eq_false_iff.mpr hclosed, Bool.false_and, Bool.and_false, if_neg Bool.false_ne_true,
      if_neg Bool.false_ne_true]

/-- 08 R143, R148: an arrival that takes XL or XR to DARK ends the wait, after the capture that comes first
where one does. -/
theorem State.endings_of_signal_lost {u : State} {w : Wait} {k : Nat} (hlost : signalLost before s = true)
    (hwait : s.reref.wait ≠ none) (hu : (if first then s.takeCapture else s) = u)
    (hw : u.reref.wait = some w) (hn : u.newest = some k) :
    (s.endings before first).line = u.line
      ∧ (s.endings before first).reref =
        { wait := none
          result := some
            { outcome := .failedSignal, line := w.line, accepting := w.accepting, endSample := k
              discarded := w.discarded, capture := none, applied := none } }
      ∧ Event.rerefEnd.mem (s.endings before first).status.sticky = true := by
  have hwaiting : s.waiting = true := Option.isSome_iff_ne_none.mpr hwait
  obtain ⟨v, hv, hview⟩ : ∃ v : State, s.endings before first = v.finishWait .failedSignal none none
      ∧ v.waitView = u.waitView := by
    unfold State.endings
    dsimp only
    rw [hwaiting, hlost, Bool.true_and, if_pos rfl, Bool.or_true, Bool.and_true, hu]
    refine ⟨_, rfl, ?_⟩
    split
    exacts [u.waitView_closeAborted _, rfl]
  simp only [State.waitView, Prod.mk.injEq] at hview
  obtain ⟨hnewest, -, hline, hreref⟩ := hview
  rw [hv, State.finishWait_eq (hreref ▸ hw), State.newestIndex_of_some (hnewest ▸ hn)]
  exact ⟨hline, rfl, by simp [State.mem_raise]⟩

end

/-! #### The valid-from sample of an arrival (08 R145) -/

section
variable (s : State) (a : SampleInput)

/-- Of an arrival up to its endings only the epochs bear on reference control. -/
theorem State.beforeEndings_reref :
    ∃ x : State, x.reref = s.reref ∧ x.channels = s.arrivedChannels a
      ∧ (s.beforeEndings a).reref = (x.epochsArrived s.measuringEpochs s.arrivingIndex).reref := by
  obtain ⟨_, _, _, hfit⟩ := s.arrivedFit_shape a
  obtain ⟨_, _, hair, -⟩ := ((s.arrivedFit a).pushWindow s.arrivingIndex).airArrive_eq
  obtain ⟨x, hx⟩ :
    ∃ x, x = ((s.arrivedFit a).pushWindow s.arrivingIndex).dropSnapshot.updateDrift.countAge := ⟨_, rfl⟩
  have hbefore : s.beforeEndings a =
      ((x.epochsArrived s.measuringEpochs s.arrivingIndex).makeDue s.arrivingIndex).countReport := hx ▸ rfl
  obtain ⟨_, hreport, -⟩ := State.countReport_eq
    ((x.epochsArrived s.measuringEpochs s.arrivingIndex).makeDue s.arrivingIndex)
  rw [hair, hfit] at hx
  exact ⟨x, hx ▸ rfl, hx ▸ rfl, by rw [hbefore, hreport]; rfl⟩

theorem State.beforeEndings_frame :
    (s.beforeEndings a).newest = some s.arrivingIndex
      ∧ (s.beforeEndings a).channels = s.arrivedChannels a
      ∧ (s.beforeEndings a).line = s.line ∧ (s.beforeEndings a).pass = s.pass
      ∧ ∃ e : WindowEntry, e.index = s.arrivingIndex
        ∧ (s.beforeEndings a).axis.window = (e :: s.axis.window).take 64 := by
  obtain ⟨_, _, _, _, e, -⟩ := s.beforeEndings_eq a
  rw [e]
  exact ⟨rfl, rfl, rfl, rfl, _, rfl, rfl⟩

end

section
variable {s : State} {a : SampleInput}

theorem State.chan_of_arrived {x : State} (h : x.channels = s.arrivedChannels a) (m : Channel) :
    x.chan m = ((s.chan m).arrive (a.pairOf m)).unit := by
  rw [State.chan, h, State.arrivedChannels_get]

theorem signalLost_beforeEndings_iff :
    signalLost s (s.beforeEndings a) = true ↔ ∃ m, (m = .xl ∨ m = .xr)
      ∧ ((s.chan m).arrive (a.pairOf m)).unit.counter.state = .dark ∧ (s.chan m).counter.state ≠ .dark := by
  obtain ⟨-, hchannels, -⟩ := s.beforeEndings_frame a
  simp only [signalLost_iff, State.chan_of_arrived hchannels]

theorem State.beforeEndings_reref_of_kept
    (h : ∀ m, m = .xl ∨ m = .xr →
      ((s.chan m).arrive (a.pairOf m)).unit.counter.epoch = (s.chan m).counter.epoch) :
    (s.beforeEndings a).reref = s.reref := by
  obtain ⟨x, hreref, hchannels, he⟩ := s.beforeEndings_reref a
  have hepochs : x.measuringEpochs = s.measuringEpochs :=
    State.measuringEpochs_eq_iff.mpr (by simpa only [State.chan_of_arrived hchannels] using h)
  rw [he, State.epochsArrived, if_pos hepochs, hreref]

/-- 08 R145: a new epoch of XL or XR moves the valid-from sample to the arriving one, never back. -/
theorem State.beforeEndings_reref_of_moved {w : Wait} {m : Channel} (hw : s.reref.wait = some w)
    (hm : m = .xl ∨ m = .xr)
    (h : ((s.chan m).arrive (a.pairOf m)).unit.counter.epoch ≠ (s.chan m).counter.epoch) :
    (s.beforeEndings a).reref =
      { s.reref with wait := some { w with validFrom := max w.validFrom s.arrivingIndex } } := by
  obtain ⟨x, hreref, hchannels, he⟩ := s.beforeEndings_reref a
  have hepochs : ¬x.measuringEpochs = s.measuringEpochs := fun heq =>
    h (State.chan_of_arrived hchannels m ▸ State.measuringEpochs_eq_iff.mp heq m hm)
  rw [he, State.epochsArrived, if_neg hepochs, State.moveValidFrom, hreref, hw]
  rfl

theorem exec_sampleArrival (q : s.Quiet) :
    exec (.sampleArrival a) s = .next ((s.beforeEndings a).endings s a.captureFirst) := by
  rw [exec, execSampleArrival, s.settle_of_quiet q, State.arrive_eq]

/-- 05 R79: the window of an arrival that follows the sample of its newest entry. -/
theorem State.beforeEndings_entries {e0 : WindowEntry} {rest : List WindowEntry}
    (hn : s.newest = some e0.index) (hroom : e0.index < 18446744073709551615)
    (hwindow : s.axis.window = e0 :: rest) :
    s.arrivingIndex = e0.index + 1
      ∧ (s.beforeEndings a).axis.entry e0.index = some e0
      ∧ ∃ e1, (s.beforeEndings a).axis.entry (nextIndex e0.index) = some e1 := by
  have hnext : nextIndex e0.index = e0.index + 1 := Nat.mod_eq_of_lt (by omega)
  have harriving : s.arrivingIndex = e0.index + 1 := by rw [State.arrivingIndex, hn]; exact hnext
  obtain ⟨-, -, -, -, e1, hindex, hjoined⟩ := s.beforeEndings_frame a
  rw [harriving] at hindex
  rw [hwindow] at hjoined
  refine ⟨harriving, ?_, e1, ?_⟩
  · simp [AxisUnit.entry, hjoined, hindex]
  · simp [AxisUnit.entry, hjoined, hindex, hnext]

end

/-- Settles O12: the epochs move the valid-from sample before the endings, and a channel that becomes DARK
ends the wait; a capture that comes first meets the moved valid-from sample. -/
theorem arrivalActsOnWait : Obligations.ArrivalActsOnWait := by
  refine ⟨fun a s q hflight => ?noFlight, ?captureFirst,
    fun a s q hfirst hkept => ⟨_, exec_sampleArrival q, ?untouched⟩, ?captureLast⟩
  case noFlight =>
    obtain ⟨-, -, hline, -⟩ := s.beforeEndings_frame a
    rw [exec_sampleArrival q, exec_sampleArrival q]
    exact congrArg Host.Outcome.next (State.endings_of_no_flight (hline ▸ hflight))
  case captureFirst =>
    intro a s w ch e0 rest tOff q hfirst hw hch hn hroom hwindow hflight hlit hdark
    have hreref := State.beforeEndings_reref_of_moved hw hch (ChannelUnit.epoch_of_darkened hlit hdark)
    have hwait := congrArg RerefUnit.wait hreref
    obtain ⟨hnewest, -, hline, -⟩ := s.beforeEndings_frame a
    obtain ⟨harriving, h0, e1, h1⟩ := State.beforeEndings_entries (a := a) hn hroom hwindow
    have hview := State.waitView_takeCapture_of_early (b := ⟨e0.index, tOff⟩) hwait (hline ▸ hflight) h0 h1
      (show e0.index < max w.validFrom s.arrivingIndex by omega)
    simp only [State.waitView, Prod.mk.injEq] at hview
    obtain ⟨hnewest', -, hline', hreref'⟩ := hview
    obtain ⟨hended, hresult, hevent⟩ := State.endings_of_signal_lost (first := true)
      (u := (s.beforeEndings a).takeCapture)
      (signalLost_beforeEndings_iff.mpr ⟨ch, hch, hdark, hlit⟩) (Option.ne_none_iff_exists'.mpr ⟨_, hwait⟩)
      rfl (congrArg RerefUnit.wait hreref') (hnewest'.trans hnewest)
    refine ⟨_, exec_sampleArrival q, ?_⟩
    rw [hfirst]
    refine ⟨?_, ?_, ?_⟩
    · rw [hended, hline']
    · rw [hresult, harriving]
      rfl
    · exact hevent
  case untouched =>
    obtain ⟨-, -, -, hpass, -⟩ := s.beforeEndings_frame a
    have hlit : signalLost s (s.beforeEndings a) = false := by
      rw [Bool.eq_false_iff, ne_eq, signalLost_beforeEndings_iff]
      rintro ⟨m, hm, hdark, hlit⟩
      obtain ⟨-, hstays⟩ := hkept m hm
      exact hlit (hstays hdark)
    rw [State.endings_of_signal_kept hlit (hpass ▸ hfirst)]
    exact State.beforeEndings_reref_of_kept fun m hm => (hkept m hm).1
  case captureLast =>
    intro a s w ch q hfirst hw hch
    refine ⟨fun hlit hdark => ⟨_, exec_sampleArrival q, ?_⟩,
      fun hlit hepoch => ⟨_, exec_sampleArrival q, ?_⟩⟩ <;> rw [hfirst]
    · have hreref := State.beforeEndings_reref_of_moved hw hch (ChannelUnit.epoch_of_darkened hlit hdark)
      have hwait := congrArg RerefUnit.wait hreref
      obtain ⟨hnewest, -⟩ := s.beforeEndings_frame a
      obtain ⟨-, hresult, hevent⟩ := State.endings_of_signal_lost (first := false) (u := s.beforeEndings a)
        (signalLost_beforeEndings_iff.mpr ⟨ch, hch, hdark, hlit⟩) (Option.ne_none_iff_exists'.mpr ⟨_, hwait⟩)
        rfl hwait hnewest
      exact ⟨hresult, hevent⟩
    · have hkept : signalLost s (s.beforeEndings a) = false := by
        rw [Bool.eq_false_iff, ne_eq, signalLost_beforeEndings_iff]
        rintro ⟨m, hm, hdark, -⟩
        exact hlit m hm hdark
      rw [State.endings_of_signal_kept hkept (.inl rfl)]
      exact State.beforeEndings_reref_of_moved hw hch hepoch

end Sys2Proof.Machine
end

/-! ### The link's service and the waiting commands (09 R157 to R160, log entries 1, 2 and 29) -/

section
namespace Sys2Proof.Machine

/-! #### What no event of the part and no owner of a request touches -/

/-- The station address, the request in service, the buffer and the waiting commands. -/
def State.serviceView (s : State) : Option Byte × Option InService × Option Frame × List Instr :=
  (s.link.station, s.link.inService, s.link.buffer, s.pending)

theorem State.pending_of_serviceView {s t : State} (h : t.serviceView = s.serviceView) :
    t.pending = s.pending :=
  congrArg (fun v => v.2.2.2) h

section
variable (s : State)

@[simp] theorem State.serviceView_withArrival (v : Arrival) :
    (s.withArrival v).serviceView = s.serviceView := rfl

@[simp] theorem State.serviceView_setCounter (ch : Channel) (c : Counter) :
    (s.setCounter ch c).serviceView = s.serviceView := rfl

@[simp] theorem State.serviceView_setChan (ch : Channel) (u : ChannelUnit) :
    (s.setChan ch u).serviceView = s.serviceView := rfl

@[simp] theorem State.serviceView_ageStep : s.ageStep.serviceView = s.serviceView := by
  obtain ⟨_, _, e⟩ := s.ageStep_shape
  rw [e]
  rfl

@[simp] theorem State.serviceView_fitStart : s.fitStart.serviceView = s.serviceView := by
  obtain ⟨_, _, _, e⟩ := s.fitStart_shape
  rw [e]
  rfl

@[simp] theorem State.serviceView_fitFinish : s.fitFinish.serviceView = s.serviceView := by
  obtain ⟨_, _, _, e⟩ := s.fitFinish_shape
  rw [e]
  rfl

@[simp] theorem State.serviceView_fitTimeout : s.fitTimeout.serviceView = s.serviceView := by
  obtain ⟨_, _, e⟩ := s.fitTimeout_shape
  rw [e]
  rfl

@[simp] theorem State.serviceView_installPending (ch : Channel) :
    (s.installPending ch).serviceView = s.serviceView := by
  obtain ⟨_, _, _, e⟩ := s.installPending_shape ch
  rw [e]
  rfl

@[simp] theorem State.serviceView_fitDisable (ch : Channel) :
    (s.fitDisable ch).serviceView = s.serviceView := by
  obtain ⟨_, _, _, e⟩ := s.fitDisable_shape ch
  rw [e]
  rfl

@[simp] theorem State.serviceView_runCheck : s.runCheck.serviceView = s.serviceView := by
  obtain ⟨_, _, _, e⟩ := s.runCheck_shape
  rw [e]
  rfl

@[simp] theorem State.serviceView_reportNow : s.reportNow.serviceView = s.serviceView := rfl

@[simp] theorem State.serviceView_completeCapture : s.completeCapture.serviceView = s.serviceView := by
  obtain ⟨_, _, _, _, _, _, e⟩ := s.completeCapture_shape
  rw [e]
  rfl

@[simp] theorem State.serviceView_closeComplete (r : PassReason) :
    (s.closeComplete r).serviceView = s.serviceView := by
  obtain ⟨_, _, _, e⟩ := s.closeComplete_shape r
  rw [e]
  rfl

@[simp] theorem State.serviceView_closeAborted (r : PassReason) :
    (s.closeAborted r).serviceView = s.serviceView := by
  obtain ⟨_, _, _, e⟩ := s.closeAborted_shape r
  rw [e]
  rfl

@[simp] theorem State.serviceView_finishWait (o : RerefOutcome) (c : Option RerefCapture)
    (a : Option RerefApplied) : (s.finishWait o c a).serviceView = s.serviceView := by
  obtain ⟨_, _, e⟩ := s.finishWait_shape o c a
  rw [e]
  rfl

@[simp] theorem State.serviceView_epochMoved (ch : Channel) :
    (s.epochMoved ch).serviceView = s.serviceView := by
  obtain ⟨_, e⟩ := s.epochMoved_shape ch
  rw [e]
  rfl

/-! #### The events of an arrival -/

@[simp] theorem State.serviceView_takeAgeTick : s.takeAgeTick.serviceView = s.serviceView := by
  unfold State.takeAgeTick
  split <;> simp

@[simp] theorem State.serviceView_takeFitBegin : s.takeFitBegin.serviceView = s.serviceView := by
  unfold State.takeFitBegin
  split <;> simp

@[simp] theorem State.serviceView_takeFitComplete : s.takeFitComplete.serviceView = s.serviceView := by
  unfold State.takeFitComplete
  split <;> simp

@[simp] theorem State.serviceView_takeResetInstall (ch : Channel) :
    (s.takeResetInstall ch).serviceView = s.serviceView := by
  unfold State.takeResetInstall
  split <;> simp

@[simp] theorem State.serviceView_takeResetInstalls : s.takeResetInstalls.serviceView = s.serviceView := by
  simp [State.takeResetInstalls]

@[simp] theorem State.serviceView_takeSlotFill : s.takeSlotFill.serviceView = s.serviceView := rfl

@[simp] theorem State.serviceView_takeFitTimer (lead : Nat) :
    (s.takeFitTimer lead).serviceView = s.serviceView := by
  unfold State.takeFitTimer
  split <;> simp

@[simp] theorem State.serviceView_takeCheck : s.takeCheck.serviceView = s.serviceView := by
  unfold State.takeCheck
  split <;> simp

@[simp] theorem State.serviceView_takeReport : s.takeReport.serviceView = s.serviceView := by
  unfold State.takeReport
  split <;> simp

@[simp] theorem State.serviceView_takeCapture : s.takeCapture.serviceView = s.serviceView := by
  unfold State.takeCapture
  split
  · dsimp only
    split <;> simp
  · rfl

@[simp] theorem State.serviceView_takeRerefExpiry : s.takeRerefExpiry.serviceView = s.serviceView := by
  unfold State.takeRerefExpiry
  split <;> simp

@[simp] theorem State.serviceView_settleArrival : s.settleArrival.serviceView = s.serviceView := by
  simp [State.settleArrival]

@[simp] theorem State.serviceView_endings (before : State) (first : Bool) :
    (s.endings before first).serviceView = s.serviceView := by
  unfold State.endings
  dsimp only
  repeat' split
  all_goals simp

@[simp] theorem State.serviceView_arrive (a : SampleInput) : (s.arrive a).serviceView = s.serviceView := by
  obtain ⟨_, _, _, _, e, -⟩ := s.beforeEndings_eq a
  rw [State.arrive_eq, State.serviceView_endings, e]
  rfl

/-- 05 R82, R83: a pulse is the line input's and the pass monitor's. -/
@[simp] theorem State.serviceView_pulse (edge : Edge) (e : Nat) :
    (s.pulse edge e).serviceView = s.serviceView := by
  unfold State.pulse
  repeat' split
  all_goals rfl

/-! #### The owners of requests (09 R158 step 3) -/

theorem State.serviceView_serveRecord (line : Int) (eff : LineRecord → RecordEffect) :
    (s.serveRecord line eff).state.serviceView = s.serviceView := by
  unfold State.serveRecord
  repeat' split
  all_goals rfl

theorem State.serviceView_disableChannel (ch : Channel) :
    (s.disableChannel ch).serviceView = s.serviceView := by
  unfold State.disableChannel State.measuringLost
  split <;> simp

theorem State.serviceView_serveChannelSet (f : ChannelFields) :
    (s.serveChannelSet f).state.serviceView = s.serviceView := by
  unfold State.serveChannelSet
  split
  · rfl
  · dsimp only
    split
    · simp [State.enableChannel]
    · split
      · simp [State.serviceView_disableChannel]
      · rfl

theorem State.serviceView_servePreset (channel : Nat) (p : Int) :
    (s.servePreset channel p).state.serviceView = s.serviceView := by
  unfold State.servePreset
  repeat' split
  all_goals simp [State.refuse]

/-- 09 R158 step 3: whatever its owner makes of a request, the station address, the service, the buffer and
the waiting commands stay; LINK_COUNTS and LINK_SET touch the link's other values alone. -/
theorem State.serviceView_serve (r : Request) : (s.serve r).state.serviceView = s.serviceView := by
  cases r
  case arm | disarm | retire | drop | clear => exact s.serviceView_serveRecord _ _
  case channelSet f => exact s.serviceView_serveChannelSet f
  case preset c p => exact s.serviceView_servePreset c p
  case fit c k =>
    obtain ⟨_, _, _, e⟩ := s.serveFit_shape c k
    exact e ▸ rfl
  case passClose =>
    dsimp only [State.serve, State.servePassClose]
    split
    · rfl
    · exact s.serviceView_closeComplete _
  case passAbort =>
    dsimp only [State.serve, State.servePassAbort]
    split
    · rfl
    · exact s.serviceView_closeAborted _
  case rerefCancel =>
    dsimp only [State.serve, State.serveRerefCancel]
    split
    · exact s.serviceView_finishWait _ _ _
    · rfl
  all_goals
    dsimp only [State.serve, State.servePlace, State.serveAmend, State.serveRead, State.serveStep,
      State.serveClassOp, State.serveReadChannel, State.serveFitResult, State.serveAirSet,
      State.serveTrackerSet, State.serveGeometrySet, State.serveLineSet, State.servePassSet,
      State.servePassOpen, State.serveReref, State.serveDriveSet, State.serveLinkSet]
    repeat' split
    all_goals rfl

/-- 09 R163, R164: of the owners only the link's bring something with the end of a reply. -/
theorem State.serve_after {r : Request} (hrestart : r ≠ .restart)
    (hset : ∀ rate group, r ≠ .linkSet rate group) : (s.serve r).after = .nothing := by
  cases r
  case restart => exact absurd rfl hrestart
  case linkSet rate group => exact absurd rfl (hset rate group)
  all_goals
    dsimp only [State.serve, State.servePlace, State.serveAmend, State.serveArm, State.serveDisarm,
      State.serveRetire, State.serveDrop, State.serveClear, State.serveRecord, State.serveRead,
      State.serveStep, State.serveClassOp, State.serveChannelSet, State.servePreset, State.serveReadChannel,
      State.serveFit, State.serveEstimate, State.serveReset, State.serveFitResult, State.serveAirSet,
      State.serveTrackerSet, State.serveGeometrySet, State.serveLineSet, State.servePassSet,
      State.servePassOpen, State.servePassClose, State.servePassAbort, State.serveReref,
      State.serveRerefCancel, State.serveDriveSet]
    repeat' split
    all_goals rfl

/-! #### The waiting commands (log entry 1) -/

theorem State.pending_afterService (a : AfterReply) : (s.afterService a).pending = s.pending := by
  cases a <;> rfl

theorem Served.pending_finish (v : Served) (own : Bool) (code tag : Byte) :
    (v.finish own code tag).pending = v.state.pending := by
  cases own
  · exact v.state.pending_afterService v.after
  · rfl

theorem State.pending_serveRequest (own : Bool) (tag : Byte) (r : Request) :
    (s.serveRequest own tag r).pending = s.pending :=
  (Served.pending_finish _ _ _ _).trans (State.pending_of_serviceView (s.serviceView_serve r))

theorem State.pending_serveFrame (f : Frame) : (s.serveFrame f).pending = s.pending := by
  unfold State.serveFrame
  split
  · exact s.pending_serveRequest _ _ _
  · exact (s.refuse .unknown).pending_finish _ _ _
  · exact (s.refuse .length).pending_finish _ _ _

theorem State.pending_offer (f : Frame) : (s.offer f).pending = s.pending := by
  unfold State.offer
  split
  · exact s.pending_serveFrame f
  · split <;> rfl

theorem State.pending_takeFrame (address : Byte) (payload : Bytes) :
    (s.takeFrame address payload).pending = s.pending := by
  unfold State.takeFrame
  split
  · rfl
  · exact s.pending_offer _

theorem State.pending_takeRequest (h : Header) (r : Request) : (s.takeRequest h r).pending = s.pending := by
  unfold State.takeRequest
  split
  · rfl
  · split
    · exact s.pending_serveRequest _ _ _
    · exact s.pending_offer _

theorem State.pending_restartAll (straps : Nat) : (s.restartAll straps).pending = s.pending := by
  rw [State.restartAll_eq]

theorem State.pending_takeBaud : s.takeBaud.pending = s.pending := by
  unfold State.takeBaud
  split <;> rfl

theorem State.pending_takeRestart (straps : Nat) : (s.takeRestart straps).pending = s.pending := by
  unfold State.takeRestart
  split
  · exact s.pending_restartAll straps
  · rfl

theorem State.pending_takeBuffered : s.takeBuffered.pending = s.pending := by
  unfold State.takeBuffered
  split
  · exact State.pending_serveFrame (s.withLink _) _
  · rfl

theorem State.pending_settleArrival : s.settleArrival.pending = s.pending :=
  State.pending_of_serviceView s.serviceView_settleArrival

/-- Everything due is taken from a part without a look at the waiting commands (log entry 2). -/
theorem State.pending_settle : s.settle.pending = s.pending := by
  rw [State.settle, State.settleLink, State.pending_of_serviceView (State.serviceView_takeSlotFill _),
    State.pending_takeRestart, State.pending_takeBuffered, State.pending_takeRestart, State.pending_takeBaud,
    State.pending_settleArrival]

theorem State.pending_character (v : Byte) : (s.character v).pending = s.pending := by
  unfold State.character
  dsimp only
  split
  case h_6 =>
    unfold State.frameComplete
    dsimp only
    split
    · exact (s.withRx .hunting).pending_takeFrame _ _
    · rfl
  case h_1 | h_3 => split <;> rfl
  all_goals rfl

theorem State.pending_characterError : s.characterError.pending = s.pending := by
  unfold State.characterError
  split <;> rfl

theorem State.pending_gap : s.gap.pending = s.pending := by
  unfold State.gap
  split <;> rfl

theorem State.pending_replyEnd : s.replyEnd.pending = s.pending := by
  unfold State.replyEnd
  split
  · rfl
  · split <;> rfl

end

/-- Settles O2: a request is taken by the link; of the other commands each is one event, and the events that
are due before it leave the waiting commands alone too. -/
theorem execKeepsQueue : Obligations.ExecKeepsQueue := by
  intro c s
  have hsettle := s.pending_settle
  have hview {t : State} (h : t.serviceView = s.serviceView) := State.pending_of_serviceView h
  have hsettled {t : State} (h : t.serviceView = s.settle.serviceView) :=
    (State.pending_of_serviceView h).trans hsettle
  cases hreq : c.request with
  | some p => exact ⟨_, exec_of_request hreq s, (State.pending_takeRequest _ _ _).trans hsettle⟩
  | none =>
    cases c
    case powerOnReset => exact ⟨_, rfl, rfl⟩
    case restartLine active straps =>
      refine ⟨_, rfl, ?_⟩
      split
      · exact (s.settle.pending_restartAll straps).trans hsettle
      · exact hsettle
    case sampleArrival a => exact ⟨_, rfl, hsettled (s.settle.serviceView_arrive a)⟩
    case ageTick => exact ⟨_, rfl, hview s.serviceView_takeAgeTick⟩
    case check => exact ⟨_, rfl, hview s.serviceView_takeCheck⟩
    case pulseArrival edge time => exact ⟨_, rfl, hsettled (s.settle.serviceView_pulse edge time)⟩
    case captureFormed => exact ⟨_, rfl, hview s.serviceView_takeCapture⟩
    case fitBegin => exact ⟨_, rfl, hview s.serviceView_takeFitBegin⟩
    case slotFill => exact ⟨_, rfl, rfl⟩
    case fitComplete => exact ⟨_, rfl, hview s.serviceView_takeFitComplete⟩
    case fitTimerExpiry => exact ⟨_, rfl, hview (s.serviceView_takeFitTimer 1)⟩
    case resetInstall ch => exact ⟨_, rfl, hview (s.serviceView_takeResetInstall ch)⟩
    case rerefTimerExpiry => exact ⟨_, rfl, hview s.serviceView_takeRerefExpiry⟩
    case reportExpiry => exact ⟨_, rfl, hview s.serviceView_takeReport⟩
    case driveFrameEnd => exact ⟨_, rfl, hsettle⟩
    case receiveCharacter v stopBit =>
      cases stopBit
      exacts [⟨_, rfl, s.settle.pending_characterError.trans hsettle⟩,
        ⟨_, rfl, (s.settle.pending_character v).trans hsettle⟩]
    case gapExpiry => exact ⟨_, rfl, s.settle.pending_gap.trans hsettle⟩
    case bufferedFrameService =>
      dsimp only [exec, execBufferedFrameService]
      split
      · refine ⟨_, rfl, ?_⟩
        rw [State.pending_takeBuffered, State.pending_takeRestart, State.pending_takeBaud,
          State.pending_settleArrival]
      · exact ⟨_, rfl, rfl⟩
    case replySent => exact ⟨_, rfl, s.settle.pending_replyEnd.trans hsettle⟩
    case baudChange => exact ⟨_, rfl, s.pending_takeBaud⟩
    case restartTaken straps =>
      dsimp only [exec, execRestartTaken]
      split
      · refine ⟨_, rfl, ?_⟩
        rw [State.pending_takeRestart, State.pending_takeBaud, State.pending_settleArrival]
      · exact ⟨_, rfl, rfl⟩
    case unknownRequest address payload =>
      dsimp only [exec, execUnknownRequest]
      split
      · exact ⟨_, rfl, (s.settle.pending_takeFrame _ _).trans hsettle⟩
      · exact ⟨_, rfl, rfl⟩
    all_goals cases hreq

end Sys2Proof.Machine
end

/-! ### The receiver, character by character (09 R152 to R155, R161) -/

section
namespace Sys2Proof.Machine

/-! #### The CRC (09 R155) -/

/-- 09 R155: one bit of a byte enters the division. -/
def crcStep (r : BitVec 16) (bit : Bool) : BitVec 16 :=
  if r.getLsbD 15 != bit then (r <<< 1) ^^^ 0x1021 else r <<< 1

/-- The division is linear: a word laid over the remainder enters it by its top bit and moves up. -/
theorem crcBit_xor (r m : BitVec 16) : crcBit (r ^^^ m) = crcStep r (m.getLsbD 15) ^^^ (m <<< 1) := by
  have hmsb : (r ^^^ m).msb = (r.getLsbD 15 != m.getLsbD 15) := by
    rw [BitVec.msb_eq_getLsbD_last, BitVec.getLsbD_xor]
  rw [crcBit, crcStep, hmsb, BitVec.shiftLeft_xor_distrib]
  split
  · rw [BitVec.xor_assoc, BitVec.xor_comm (m <<< 1), BitVec.xor_assoc]
  · rfl

theorem crcByte_eq_foldl (crc : BitVec 16) (b : Byte) :
    crcByte crc b = [7, 6, 5, 4, 3, 2, 1, 0].foldl (fun r i => crcStep r (b.getLsbD i)) crc := by
  simp only [crcByte, crcBits, List.foldl_cons, List.foldl_nil, crcBit_xor]
  simp [← BitVec.shiftLeft_add]

/-- 09 R155: the two bytes of a CRC, high byte first. -/
theorem crc_eq_append_iff {crc : BitVec 16} {high low : Byte} :
    crc = high ++ low ↔ crc.toNat = 256 * high.toNat + low.toNat := by
  have happend : (high ++ low).toNat = 256 * high.toNat + low.toNat := by
    rw [BitVec.toNat_append, ← Nat.shiftLeft_add_eq_or_of_lt low.isLt, Nat.shiftLeft_eq]
    ring
  rw [← happend, BitVec.toNat_inj]

/-! #### A character, state by state (09 R152) -/

section
variable {s : State} {rx : Receiver} {v : Byte}

theorem State.character_of_hunt (hrx : s.link.rx = rx) (h : rx.state = .hunt) : s.character v =
    if v = 0xD2 then s.withRx { Receiver.hunting with state := .address, crc := 0xFFFF } else s := by
  subst hrx
  rw [State.character, h]

theorem State.character_of_address (hrx : s.link.rx = rx) (h : rx.state = .address) : s.character v =
    s.withRx { rx with state := .length, address := v, crc := crcByte rx.crc v } := by
  subst hrx
  rw [State.character, h]

theorem State.character_of_length (hrx : s.link.rx = rx) (h : rx.state = .length) : s.character v =
    if 1 ≤ v.toNat ∧ v.toNat ≤ 250 then
      s.withRx { rx with state := .payload, len := v.toNat, crc := crcByte rx.crc v }
    else (s.withRx .hunting).linkFault .length := by
  subst hrx
  rw [State.character, h]

theorem State.character_of_payload (hrx : s.link.rx = rx) (h : rx.state = .payload) : s.character v =
    s.withRx
      { rx with
        state := if rx.payload.length + 1 < rx.len then .payload else .crcHigh
        payload := rx.payload ++ [v], crc := crcByte rx.crc v } := by
  subst hrx
  rw [State.character, h]
  simp only [List.length_append, List.length_singleton]

theorem State.character_of_crcHigh (hrx : s.link.rx = rx) (h : rx.state = .crcHigh) :
    s.character v = s.withRx { rx with state := .crcLow, high := v } := by
  subst hrx
  rw [State.character, h]

theorem State.character_of_crcLow (hrx : s.link.rx = rx) (h : rx.state = .crcLow) : s.character v =
    if rx.crc.toNat = 256 * rx.high.toNat + v.toNat then
      (s.withRx .hunting).takeFrame rx.address rx.payload
    else (s.withRx .hunting).linkFault .crc := by
  subst hrx
  rw [State.character, h]
  simp only [State.frameComplete, crc_eq_append_iff]

theorem State.characterError_eq (s : State) : s.characterError =
    if s.link.rx.state = .hunt then s else (s.withRx .hunting).linkFault .character := rfl

theorem State.gap_eq (s : State) : s.gap =
    if s.link.rx.state = .hunt then s else (s.withRx .hunting).linkFault .gap := rfl

end

/-! #### The commands -/

section
variable {s : State}

theorem exec_receiveCharacter (q : s.Quiet) (v : Byte) :
    exec (.receiveCharacter v true) s = .next (s.character v) :=
  congrArg (fun t : State => Host.Outcome.next (t.character v)) (s.settle_of_quiet q)

theorem exec_characterError (q : s.Quiet) (v : Byte) :
    exec (.receiveCharacter v false) s = .next s.characterError :=
  congrArg (fun t : State => Host.Outcome.next t.characterError) (s.settle_of_quiet q)

theorem exec_gapExpiry (q : s.Quiet) : exec .gapExpiry s = .next s.gap :=
  congrArg (fun t : State => Host.Outcome.next t.gap) (s.settle_of_quiet q)

end

/-- Settles O36: each state's equation for a character, and the two ways a frame in reception is lost. -/
theorem receiverStateTable : Obligations.ReceiverStateTable := by
  refine ⟨crcByte_eq_foldl, fun _ => rfl, ?_⟩
  intro s v rx q hrx
  rw [exec_receiveCharacter q, exec_characterError q, exec_gapExpiry q, s.characterError_eq, s.gap_eq, ← hrx]
  refine ⟨?huntOther, ?huntLead, ?address, ?length, ?lengthOut, ?payload, ?crcHigh, ?crcLow, ?errorInHunt,
    ?error, ?gapInHunt, ?gap⟩
  case huntOther =>
    intro h hv
    rw [State.character_of_hunt hrx.symm h, if_neg hv]
  case huntLead =>
    intro h hv
    rw [State.character_of_hunt hrx.symm h, if_pos hv]
    rfl
  case address =>
    intro h
    rw [State.character_of_address hrx.symm h]
  case length =>
    intro h hlow hhigh
    rw [State.character_of_length hrx.symm h, if_pos ⟨hlow, hhigh⟩]
  case lengthOut =>
    intro h hv
    have hout : ¬(1 ≤ v.toNat ∧ v.toNat ≤ 250) := by
      rcases hv with rfl | hv
      · decide
      · omega
    rw [State.character_of_length hrx.symm h, if_neg hout]
    rfl
  case payload =>
    intro h
    rw [State.character_of_payload hrx.symm h]
  case crcHigh =>
    intro h
    rw [State.character_of_crcHigh hrx.symm h]
  case crcLow =>
    intro h hcrc
    rw [State.character_of_crcLow hrx.symm h, if_neg hcrc]
    rfl
  case errorInHunt | gapInHunt =>
    intro h
    rw [if_pos h]
  case error | gap =>
    intro h
    rw [if_neg h]
    rfl

end Sys2Proof.Machine
end

/-! ### A request as the payload of a frame (11 sections 11.1 to 11.3, R177) -/

section
namespace Sys2Proof.Machine

/-! #### Fields -/

@[simp] theorem sBytes_length (w : Nat) (i : Int) : (sBytes w i).length = w := beBytes_length w _

/-- 11 R177: a value that fits its field is read back. -/
theorem beNat_of_fitsU {w n : Nat} (h : fitsU w n = true) : beNat (beBytes w n) = n := by
  rw [beNat_beBytes, Nat.mod_eq_of_lt (of_decide_eq_true h)]

theorem toSigned_of_fitsS {w : Nat} {i : Int} (hw : 1 ≤ w) (h : fitsS w i = true) :
    toSigned w (beNat (sBytes w i)) = i := by
  obtain ⟨hlow, hhigh⟩ := Bool.and_eq_true_iff.mp h
  have hpos : (0 : Int) < ((256 ^ w : Nat) : Int) := by positivity
  have hlt : ofSigned w i < 256 ^ w := by
    have := Int.emod_lt_of_pos i hpos
    unfold ofSigned
    omega
  rw [sBytes, beNat_beBytes, Nat.mod_eq_of_lt hlt,
    toSigned_ofSigned hw (of_decide_eq_true hlow) (of_decide_eq_true hhigh)]

theorem getD_fits {α : Type} {ok : α → Bool} {o : Option α} {d : α} (h : optFits ok o = true)
    (hd : ok d = true) : ok (o.getD d) = true := by
  cases o
  exacts [hd, h]

/-! #### AMEND's presence byte (11 section 11.3) -/

theorem presenceBit_eq {α : Type} (bit : Nat) (o : Option α) :
    presenceBit bit o = if o.isSome then 2 ^ bit else 0 := by
  cases o <;> rfl

theorem fitsU_presence (f : AmendFields) : fitsU 1 f.presence = true := by
  simp only [fitsU, AmendFields.presence, presenceBit_eq]
  generalize f.nominal.isSome = a, f.halfWidth.isSome = b, f.cls.isSome = c, f.targetFwd.isSome = d,
    f.targetRev.isSome = e, f.datum.isSome = g
  revert a b c d e g
  decide

theorem testBit_presence (f : AmendFields) :
    f.presence.testBit 0 = f.nominal.isSome ∧ f.presence.testBit 1 = f.halfWidth.isSome
      ∧ f.presence.testBit 2 = f.cls.isSome ∧ f.presence.testBit 3 = f.targetFwd.isSome
      ∧ f.presence.testBit 4 = f.targetRev.isSome ∧ f.presence.testBit 5 = f.datum.isSome := by
  simp only [AmendFields.presence, presenceBit_eq]
  generalize f.nominal.isSome = a, f.halfWidth.isSome = b, f.cls.isSome = c, f.targetFwd.isSome = d,
    f.targetRev.isSome = e, f.datum.isSome = g
  revert a b c d e g
  decide

theorem carried_getD {α : Type} {presence bit : Nat} {o : Option α} {d : α}
    (h : presence.testBit bit = o.isSome) : carried presence bit (o.getD d) = o := by
  cases o <;> simp [carried, h]

/-! #### The payload -/

theorem encodePayload_length (tag : Byte) (r : Request) :
    (encodePayload tag r).length = r.fieldBytes.length + 2 := rfl

/-- 11 section 11.3: the catalogue's length of each request is that of its payload. -/
theorem requestLen_code (tag : Byte) (r : Request) :
    requestLen r.code.toNat = some (encodePayload tag r).length := by
  rw [encodePayload_length]
  cases r <;> simp [Request.fieldBytes, Request.code, requestLen]

/-- Each field of a payload stands at its offset; every value that fits its width is read back. -/
theorem parseFields_encodePayload (tag : Byte) {r : Request} (h : r.wellFormed = true) :
    parseFields r.code.toNat (encodePayload tag r) = some r := by
  cases r
  case amend f =>
    simp only [Request.wellFormed, Bool.and_eq_true] at h
    obtain ⟨⟨⟨⟨⟨⟨hline, hnominal⟩, hhalf⟩, hcls⟩, hfwd⟩, hrev⟩, hdatum⟩ := h
    obtain ⟨hbit0, hbit1, hbit2, hbit3, hbit4, hbit5⟩ := testBit_presence f
    have hpresence := fitsU_presence f
    replace hnominal := getD_fits (d := 0) hnominal rfl
    replace hhalf := getD_fits (d := 0) hhalf rfl
    replace hcls := getD_fits (d := 0) hcls rfl
    replace hfwd := getD_fits (d := 0) hfwd rfl
    replace hrev := getD_fits (d := 0) hrev rfl
    replace hdatum := getD_fits (d := 0) hdatum rfl
    simp [parseFields, encodePayload, Request.code, Request.fieldBytes, fieldU, fieldS, List.drop_append,
      List.drop_of_length_le, List.take_of_length_le, beNat_of_fitsU, toSigned_of_fitsS, carried_getD, *]
  all_goals
    simp only [Request.wellFormed, Bool.and_eq_true] at h
    simp [parseFields, encodePayload, Request.code, Request.fieldBytes, fieldU, fieldS, List.drop_append,
      List.drop_of_length_le, List.take_of_length_le, beNat_of_fitsU, toSigned_of_fitsS, h]

/-- 11 sections 11.1 to 11.3: a payload that spells a request is read as that request. -/
theorem decodePayload_encodePayload (tag : Byte) {r : Request} (h : r.wellFormed = true) :
    decodePayload (encodePayload tag r) = .request tag r := by
  have hlen := requestLen_code tag r
  have hparse := parseFields_encodePayload tag h
  rw [encodePayload] at hlen hparse ⊢
  simp only [decodePayload, hlen, hparse, if_true, List.headD_cons]

/-- A frame's LEN admits every request (09 R152). -/
theorem encodePayload_length_le (tag : Byte) (r : Request) : (encodePayload tag r).length ≤ 250 := by
  rw [encodePayload_length]
  cases r <;> simp [Request.fieldBytes]

end Sys2Proof.Machine
end

/-! ### Frames: the address test, the buffer and the service (09 R156 to R160) -/

section
namespace Sys2Proof.Machine

/-! #### The address test (09 R156) -/

section
variable {s : State} {a : Byte} {p : Bytes}

theorem State.addressed_of_other (h : ¬s.Addressed a) : s.link.addressed a = none := by
  obtain ⟨hstation, hall, hgroup⟩ : s.link.station ≠ some a ∧ a ≠ 0xFF ∧ ¬(a ≠ 0 ∧ a = s.link.group) := by
    simpa only [State.Addressed, not_or] using h
  rw [LinkUnit.addressed, if_neg hstation, if_neg hall, if_neg hgroup]

theorem State.addressed_of_addressed (h : s.Addressed a) :
    s.link.addressed a = some (decide (s.link.station = some a)) := by
  unfold LinkUnit.addressed
  split
  next hown => rw [decide_eq_true hown]
  next hown =>
    rw [decide_eq_false hown]
    split
    · rfl
    next hall => rw [if_pos ((h.resolve_left hown).resolve_left hall)]

/-! #### A frame offered to service (09 R157) -/

theorem State.takeFrame_of_other (h : ¬s.Addressed a) : s.takeFrame a p = s := by
  rw [State.takeFrame, State.addressed_of_other h]

theorem State.takeFrame_of_free (h : s.Addressed a) (hfree : s.link.inService = none) :
    s.takeFrame a p = s.serveFrame { own := decide (s.link.station = some a), payload := p } := by
  rw [State.takeFrame, State.addressed_of_addressed h]
  simp only [State.offer, hfree]

theorem State.takeFrame_of_busy (h : s.Addressed a) (hbusy : s.link.inService ≠ none) :
    s.takeFrame a p =
      if s.link.buffer = none then
        s.withLink { s.link with
          buffer := some { own := decide (s.link.station = some a), payload := p } }
      else s.linkFault .overrun := by
  obtain ⟨q, hq⟩ := Option.ne_none_iff_exists'.mp hbusy
  rw [State.takeFrame, State.addressed_of_addressed h]
  simp only [State.offer, hq]
  cases s.link.buffer <;> rfl

/-! #### A request of the catalogue (09 R158) -/

theorem State.serveFrame_encodePayload {own : Bool} {tag : Byte} {r : Request} (h : r.wellFormed = true) :
    s.serveFrame { own := own, payload := encodePayload tag r } = s.serveRequest own tag r := by
  simp only [State.serveFrame, decodePayload_encodePayload tag h]

/-- 09 R158: a request that finds the part free enters service. -/
theorem State.takeRequest_of_free {h : Header} {r : Request} (ha : s.Addressed h.address)
    (hfree : s.link.inService = none) :
    s.takeRequest h r = s.serveRequest (decide (s.link.station = some h.address)) h.tag r := by
  rw [State.takeRequest, State.addressed_of_addressed ha]
  simp only [hfree]

/-- A request that is not served at once is its frame, whatever its fields. -/
theorem State.takeRequest_of_unserved {h : Header} {r : Request}
    (hwait : ¬s.Addressed h.address ∨ s.link.inService ≠ none) :
    s.takeRequest h r = s.takeFrame h.address (encodePayload h.tag r) := by
  by_cases ha : s.Addressed h.address
  · obtain ⟨q, hq⟩ := Option.ne_none_iff_exists'.mp (hwait.resolve_left (not_not_intro ha))
    rw [State.takeRequest, State.takeFrame, State.addressed_of_addressed ha]
    simp only [hq]
  · rw [State.takeFrame_of_other ha, State.takeRequest_of_other (State.addressed_of_other ha)]

/-- 09 R156 to R158: a request command does what its frame does. -/
theorem State.takeRequest_eq_takeFrame {h : Header} {r : Request} (hr : r.wellFormed = true) :
    s.takeRequest h r = s.takeFrame h.address (encodePayload h.tag r) := by
  by_cases hserved : s.Addressed h.address ∧ s.link.inService = none
  · obtain ⟨ha, hfree⟩ := hserved
    rw [State.takeRequest_of_free ha hfree, State.takeFrame_of_free ha hfree,
      State.serveFrame_encodePayload hr]
  · exact State.takeRequest_of_unserved (not_and_or.mp hserved)

theorem exec_request_of_quiet {i : Instr} {h : Header} {r : Request} (hi : i.request = some (h, r))
    (q : s.Quiet) : exec i s = .next (s.takeRequest h r) := by
  rw [exec_of_request hi, State.request, s.settle_of_quiet q]

/-! #### A payload that is no request of the catalogue (09 R158 steps 1 and 2) -/

/-- 09 R158: the answer to a payload of a code that is not in the catalogue, or of a wrong length. -/
def foreignStatus (code : Byte) : Status :=
  if requestLen code.toNat = none then .unknown else .length

/-- The catalogue's shortest payload is the header. -/
theorem requestLen_ne_one (code : Nat) : requestLen code ≠ some 1 := by
  simp [requestLen, ite_eq_iff]

section
variable {code : Byte} {rest : Bytes}

theorem decodePayload_foreign (h : requestLen code.toNat ≠ some (rest.length + 1)) :
    decodePayload (code :: rest) =
      if requestLen code.toNat = none then .unknown code rest.head? else .badLength code rest.head? := by
  simp only [decodePayload]
  split
  next hnone => rw [if_pos hnone]
  next n hn =>
    rw [hn, ne_eq, Option.some_inj] at h
    rw [List.length_cons, if_neg (Ne.symm h), hn, if_neg (Option.some_ne_none n)]

theorem unknownPayload_foreign (hlen : rest.length ≤ 249)
    (h : requestLen code.toNat ≠ some (rest.length + 1)) : unknownPayload (code :: rest) = true := by
  have hfits : rest.length + 1 ≤ 250 := by omega
  rw [unknownPayload, decodePayload_foreign h]
  by_cases hnone : requestLen code.toNat = none <;> simp [hnone, hfits]

theorem unknownPayload_of_request {tag : Byte} {r : Request} (h : r.wellFormed = true) :
    unknownPayload (encodePayload tag r) = false := by
  rw [unknownPayload, decodePayload_encodePayload tag h, Bool.and_false]

/-- The tag of the answer: the payload's second byte, open where there is none (log entry 8). -/
def State.foreignTag (s : State) (rest : Bytes) : Byte :=
  rest.head?.getD (Config.tagOfShortPayload s.freeCount)

/-- 09 R158: such a payload is refused by the link itself. -/
theorem State.serveFrame_foreign {own : Bool} (h : requestLen code.toNat ≠ some (rest.length + 1)) :
    s.serveFrame { own := own, payload := code :: rest }
      = (s.refuse (foreignStatus code)).finish own code (s.foreignTag rest) := by
  rw [State.serveFrame, decodePayload_foreign h, foreignStatus]
  by_cases hnone : requestLen code.toNat = none
  · simp only [if_pos hnone, State.foreignTag]
  · simp only [if_neg hnone, State.foreignTag]

theorem exec_unknownRequest_foreign (q : s.Quiet) (hlen : rest.length ≤ 249)
    (h : requestLen code.toNat ≠ some (rest.length + 1)) :
    exec (.unknownRequest a (code :: rest)) s = .next (s.takeFrame a (code :: rest)) := by
  simp only [exec, execUnknownRequest, unknownPayload_foreign hlen h, if_true, s.settle_of_quiet q]

end

/-! #### A refusal, answered and not -/

theorem State.finish_refuse_own {st : Status} {code tag : Byte} (hstation : s.link.station = some a) :
    (s.refuse st).finish true code tag = s.answered ⟨a, tag⟩ code st [] := by
  rw [Served.finish_answered (h := ⟨a, tag⟩) hstation]
  exact congrArg (fun d => s.answered ⟨a, tag⟩ code st d) (ite_self _)

theorem State.finish_refuse_other (s : State) (st : Status) (code tag : Byte) :
    (s.refuse st).finish false code tag = s.withFreeCount (s.freeCount + 1) := rfl

end

/-- Settles O39: such a frame goes by its address; offered to a busy part it fills the buffer, or it is lost
at a full one. -/
theorem requestAddressedAndBuffered : Obligations.RequestAddressedAndBuffered := by
  intro i a p s hi q
  have htake (hwait : ¬s.Addressed a ∨ s.link.inService ≠ none) : exec i s = .next (s.takeFrame a p) := by
    rcases hi with ⟨h, r, hreq, rfl, rfl⟩ | ⟨code, rest, rfl, rfl, hlen, hforeign⟩
    · rw [exec_request_of_quiet hreq q, State.takeRequest_of_unserved hwait]
    · exact exec_unknownRequest_foreign q hlen hforeign
  refine ⟨fun hother => ?_, fun ha hbusy hempty => ⟨_, htake (.inr hbusy), ?_⟩, fun ha hbusy hfull => ?_⟩
  · rw [htake (.inl hother), State.takeFrame_of_other hother]
  · rw [State.takeFrame_of_busy ha hbusy, if_pos hempty]
    exact ⟨rfl, rfl⟩
  · rw [htake (.inr hbusy), State.takeFrame_of_busy ha hbusy, if_neg hfull]
    rfl

/-- Settles O42: the payload is refused with the status of its code; without an answer only the counter of
free values moves. -/
theorem unknownRequestAnswered : Obligations.UnknownRequestAnswered := by
  refine ⟨?unanswered, ?ignored, ?answered⟩
  case unanswered =>
    intro s a code rest q hfree hother ha hlen hforeign
    rw [exec_unknownRequest_foreign q hlen hforeign, State.takeFrame_of_free ha hfree,
      State.serveFrame_foreign hforeign, decide_eq_false hother, State.finish_refuse_other]
  case ignored =>
    intro s a p hp
    have hknown : unknownPayload p = false := by
      rcases hp with rfl | hlong | ⟨tag, r, hr, rfl⟩
      · rfl
      · simp [unknownPayload, Nat.not_le.mpr hlong]
      · exact unknownPayload_of_request hr
    simp only [exec, execUnknownRequest, hknown, Bool.false_eq_true, if_false]
  case answered =>
    intro s h code rest ⟨q, hstation, hfree⟩
    have hanswer {rest : Bytes} (hlen : rest.length ≤ 249)
        (hforeign : requestLen code.toNat ≠ some (rest.length + 1)) :
        exec (.unknownRequest h.address (code :: rest)) s
          = .next (s.answered ⟨h.address, s.foreignTag rest⟩ code (foreignStatus code) []) := by
      rw [exec_unknownRequest_foreign q hlen hforeign, State.takeFrame_of_free (.inl hstation) hfree,
        State.serveFrame_foreign hforeign, decide_eq_true hstation, State.finish_refuse_own hstation]
    refine ⟨fun hlen hnone => ?_, fun n hlen hn hne => ?_, fun hnone => ⟨s.foreignTag [], ?_⟩,
      fun hknown => ⟨s.foreignTag [], ?_⟩⟩
    · rw [hanswer (rest := h.tag :: rest) (Nat.succ_le_succ hlen) (by simp [hnone]), foreignStatus, if_pos hnone]
      rfl
    · rw [hanswer (rest := h.tag :: rest) (Nat.succ_le_succ hlen) (by simpa [hn] using hne), foreignStatus,
        if_neg (by simp [hn])]
      rfl
    · rw [hanswer (Nat.zero_le _) (by simp [hnone]), foreignStatus, if_pos hnone]
    · rw [hanswer (Nat.zero_le _) (requestLen_ne_one _), foreignStatus, if_neg hknown]

end Sys2Proof.Machine
end

/-! ### A frame received character by character (09 R152, R155) -/

section
namespace Sys2Proof.Machine

section
variable {s : State}

/-- The receiver has no part in what is due. -/
theorem State.quiet_withRx (q : s.Quiet) (rx : Receiver) : (s.withRx rx).Quiet := q

theorem receiveAll_nil (s : State) : receiveAll [] s = .next s := rfl

theorem receiveAll_cons (q : s.Quiet) (b : Byte) (bs : Bytes) :
    receiveAll (b :: bs) s = receiveAll bs (s.character b) := by
  rw [receiveAll, List.map_cons, runCommands, exec_receiveCharacter q]
  rfl

/-- 09 R152: the last LEN characters before the CRC are collected and enter it. -/
theorem receiveAll_payload (q : s.Quiet) (tail : Bytes) {rest : Bytes} {rx : Receiver}
    (hstate : rx.state = .payload) (hlen : rx.len = rx.payload.length + rest.length) (hrest : rest ≠ []) :
    receiveAll (rest ++ tail) (s.withRx rx) = receiveAll tail (s.withRx
      { rx with state := .crcHigh, payload := rx.payload ++ rest, crc := rest.foldl crcByte rx.crc }) := by
  induction rest generalizing rx with
  | nil => exact absurd rfl hrest
  | cons b rest ih =>
    rw [List.cons_append, receiveAll_cons (s.quiet_withRx q rx),
      State.character_of_payload (s := s.withRx rx) (rx := rx) rfl hstate]
    by_cases hlast : rest = []
    · subst hlast
      rw [if_neg (by simp [hlen])]
      rfl
    · have hmore : rx.payload.length + 1 < rx.len := by
        have := List.length_pos_iff.mpr hlast
        rw [hlen, List.length_cons]
        omega
      rw [if_pos hmore]
      refine (ih (rx := { rx with
        state := .payload, payload := rx.payload ++ [b], crc := crcByte rx.crc b }) rfl ?_ hlast).trans ?_
      · simp only [hlen, List.length_append, List.length_cons, List.length_nil]
        omega
      · simp only [List.append_assoc, List.singleton_append, List.foldl_cons]

theorem State.link_rx_withRx (s : State) (rx : Receiver) : (s.withRx rx).link.rx = rx := rfl

theorem State.withRx_withRx (rx rx' : Receiver) : (s.withRx rx).withRx rx' = s.withRx rx' := rfl

theorem State.withRx_of_rx {rx : Receiver} (h : s.link.rx = rx) : s.withRx rx = s := by
  subst h
  rfl

theorem linkFrame_eq (a : Byte) (p : Bytes) :
    linkFrame a p = 0xD2 :: a :: BitVec.ofNat 8 p.length :: (p ++
      beBytes 2 (p.foldl crcByte (crcByte (crcByte 0xFFFF a) (BitVec.ofNat 8 p.length))).toNat) := rfl

theorem beBytes_two (n : Nat) :
    beBytes 2 n = [BitVec.ofNat 8 (n / 256 ^ 1), BitVec.ofNat 8 (n / 256 ^ 0)] := rfl

/-- 09 R155: the CRC's two bytes agree with the CRC. -/
theorem crc_toNat_bytes (crc : BitVec 16) :
    crc.toNat = 256 * (BitVec.ofNat 8 (crc.toNat / 256 ^ 1)).toNat
      + (BitVec.ofNat 8 (crc.toNat / 256 ^ 0)).toNat := by
  have := crc.isLt
  simp only [BitVec.toNat_ofNat]
  omega

/-- 09 R152, R155, R156: a whole frame with its CRC reaches the address test. -/
theorem receiveAll_linkFrame (q : s.Quiet) (hrx : s.link.rx = .hunting) (a : Byte) {p : Bytes}
    (hlow : p ≠ []) (hhigh : p.length ≤ 250) : receiveAll (linkFrame a p) s = .next (s.takeFrame a p) := by
  have hquiet := s.quiet_withRx q
  have hlen : (BitVec.ofNat 8 p.length).toNat = p.length := by
    rw [BitVec.toNat_ofNat]
    omega
  have hpos := List.length_pos_iff.mpr hlow
  generalize hcrc : p.foldl crcByte (crcByte (crcByte 0xFFFF a) (BitVec.ofNat 8 p.length)) = crc
  have hstart := State.character_of_hunt (v := 0xD2) hrx rfl
  have haddress := State.character_of_address (v := a) (s := s.withRx _)
    (State.link_rx_withRx s ⟨.address, 0, 0, [], 0, 0xFFFF⟩) rfl
  have hlength := State.character_of_length (v := BitVec.ofNat 8 p.length) (s := s.withRx _)
    (State.link_rx_withRx s ⟨.length, a, 0, [], 0, crcByte 0xFFFF a⟩) rfl
  have hhighByte := State.character_of_crcHigh (v := BitVec.ofNat 8 (crc.toNat / 256 ^ 1)) (s := s.withRx _)
    (State.link_rx_withRx s ⟨.crcHigh, a, p.length, p, 0, crc⟩) rfl
  have hlowByte := State.character_of_crcLow (v := BitVec.ofNat 8 (crc.toNat / 256 ^ 0)) (s := s.withRx _)
    (State.link_rx_withRx s ⟨.crcLow, a, p.length, p, BitVec.ofNat 8 (crc.toNat / 256 ^ 1), crc⟩) rfl
  rw [if_pos rfl] at hstart
  rw [if_pos (by omega), hlen] at hlength
  rw [if_pos (crc_toNat_bytes crc), State.withRx_withRx, State.withRx_of_rx hrx] at hlowByte
  calc receiveAll (linkFrame a p) s
      = receiveAll (a :: BitVec.ofNat 8 p.length :: (p ++ beBytes 2 crc.toNat))
          (s.withRx ⟨.address, 0, 0, [], 0, 0xFFFF⟩) := by
        rw [linkFrame_eq, hcrc, receiveAll_cons q, hstart]
        rfl
    _ = receiveAll (p ++ beBytes 2 crc.toNat)
          (s.withRx ⟨.payload, a, p.length, [], 0, crcByte (crcByte 0xFFFF a) (BitVec.ofNat 8 p.length)⟩) := by
        rw [receiveAll_cons (hquiet _), haddress, State.withRx_withRx, receiveAll_cons (hquiet _), hlength,
          State.withRx_withRx]
    _ = receiveAll (beBytes 2 crc.toNat) (s.withRx ⟨.crcHigh, a, p.length, p, 0, crc⟩) := by
        rw [receiveAll_payload q _ rfl (Nat.zero_add _).symm hlow, hcrc, List.nil_append]
    _ = .next (s.takeFrame a p) := by
        rw [beBytes_two, receiveAll_cons (hquiet _), hhighByte, State.withRx_withRx,
          receiveAll_cons (hquiet _), hlowByte, receiveAll_nil]

end

/-- Settles O38: the characters of the frame bring its payload to the address test, where it is read as the
request. -/
theorem frameBytesEqualRequest : Obligations.FrameBytesEqualRequest := by
  intro i h r s hi hr q hrx
  rw [receiveAll_linkFrame q hrx h.address (p := encodePayload h.tag r) (List.cons_ne_nil _ _)
      (encodePayload_length_le h.tag r),
    exec_request_of_quiet hi q, State.takeRequest_eq_takeFrame hr]

end Sys2Proof.Machine
end

/-! ### Requests to the group, and the link's own requests (09 R151, R158, R159, R162 to R164) -/

section
namespace Sys2Proof.Machine

/-! #### A request that is not answered (09 R158, R159) -/

/-- The station address and the service as serving a request leaves them. -/
theorem State.serve_link (s : State) (r : Request) :
    (s.serve r).state.link.station = s.link.station
      ∧ (s.serve r).state.link.inService = s.link.inService
      ∧ (s.serve r).state.link.buffer = s.link.buffer := by
  have hview := s.serviceView_serve r
  simp only [State.serviceView, Prod.mk.injEq] at hview
  obtain ⟨hstation, hservice, hbuffer, -⟩ := hview
  exact ⟨hstation, hservice, hbuffer⟩

/-- 09 R159: where the reply's end brings nothing, a request that is not answered leaves the part that the
answered one leaves, but for the service. -/
theorem Served.finish_other_eq {v : Served} (hafter : v.after = .nothing)
    (hfree : v.state.link.inService = none) (code tag tag' : Byte) :
    v.finish false code tag' = (v.finish true code tag).withLink
      { (v.finish true code tag).link with inService := none } := by
  have hlink : v.state.link = { v.state.link with inService := none } := by rw [← hfree]
  calc v.finish false code tag'
      = v.state.fresh := by rw [Served.finish, hafter]; rfl
    _ = (v.state.withLink { v.state.link with inService := none }).fresh := by rw [← hlink]; rfl
    _ = _ := rfl

/-- Settles O40: the owner serves both requests alike, and brings nothing with the end of a reply. -/
theorem groupRequestServedAlike : Obligations.GroupRequestServedAlike := by
  intro i j h g r s hi hj q hfree hown hother ha hrestart hset
  obtain ⟨-, hservice, -⟩ := s.serve_link r
  refine ⟨(s.serve r).finish true r.code h.tag, ?_, Option.some_ne_none _, ?_⟩
  · rw [exec_request_of_quiet hi q, State.takeRequest_of_free (.inl hown) hfree, decide_eq_true hown,
      State.serveRequest]
  · rw [exec_request_of_quiet hj q, State.takeRequest_of_free ha hfree, decide_eq_false hother,
      State.serveRequest,
      Served.finish_other_eq (s.serve_after hrestart hset) (hservice.trans hfree) r.code h.tag g.tag]

/-! #### LINK_COUNTS, LINK_SET and RESTART (09 R151, R162 to R164) -/

theorem sentB_toNat (a : Byte) : sentB a.toNat = [a] := by
  have hle : min a.toNat (256 ^ 1 - 1) = a.toNat := by have := a.isLt; omega
  rw [sentB, sentU, hle]
  simp [beBytes]

/-- 09 R151: the divisors of the rates that are accepted. -/
theorem divisor_bounds {rate d : Nat} (hd : (d : Int) = roundDiv 48000000 rate) (hlow : 115200 ≤ rate)
    (hhigh : rate ≤ 3000000) : 16 ≤ d ∧ d ≤ 417 := by
  have hmul := roundDiv_mul_bounds (n := 48000000) (d := rate) (by decide) (by omega)
  rw [← hd] at hmul
  obtain ⟨hbelow, habove⟩ := hmul
  norm_cast at hbelow habove
  constructor
  · by_contra hlt
    have : d * rate ≤ 15 * rate := Nat.mul_le_mul_right rate (by omega)
    omega
  · by_contra hgt
    have : 418 * rate ≤ d * rate := Nat.mul_le_mul_right rate (by omega)
    omega

/-- 09 R151: the rate of a divisor, and in the same way the divisor of a rate. -/
theorem toNat_rateOf {n m : Nat} (h : (m : Int) = roundDiv 48000000 n) : (rateOf n).toNat = m := by
  rw [rateOf, show (Config.linkClock : Int) = 48000000 from rfl, ← h, Int.toNat_natCast]

section
variable {s : State} {rate group : Nat}

theorem linkSetInRange_iff {station : Option Byte} :
    linkSetInRange station rate group = true ↔ (115200 ≤ rate ∧ rate ≤ 3000000)
      ∧ (group = 0 ∨ (group ≤ 254 ∧ ∀ a, station = some a → group ≠ a.toNat)) := by
  have hstation : (!(station.map BitVec.toNat == some group)) = true
      ↔ ∀ a, station = some a → group ≠ a.toNat := by
    cases station <;> simp [eq_comm (a := group)]
  simp only [linkSetInRange, Bool.and_eq_true, Bool.or_eq_true, beq_iff_eq, decide_eq_true_eq, hstation]
  by_cases hfree : ∀ a, station = some a → group ≠ a.toNat
  · simp only [eq_true hfree, and_true]
    omega
  · simp only [eq_false hfree, and_false]

theorem State.serveLinkSet_of_out (h : linkSetInRange s.link.station rate group = false) :
    s.serveLinkSet rate group = s.refuse .range := by
  rw [State.serveLinkSet, h, if_neg Bool.false_ne_true]

theorem State.serveLinkSet_of_in {d r : Nat} (h : linkSetInRange s.link.station rate group = true)
    (hd : (d : Int) = roundDiv 48000000 rate) (hr : (r : Int) = roundDiv 48000000 d) :
    s.serveLinkSet rate group =
      { state := s.withLink { s.link with group := BitVec.ofNat 8 group }, status := .ok
        data := sentU 2 d ++ sentU 4 r ++ sentB group, after := .baud d } := by
  have hdivisor : divisorOf rate = d := toNat_rateOf hd
  rw [State.serveLinkSet, if_pos h, hdivisor, toNat_rateOf hr]

theorem State.serveLinkCounts_data {a : Byte} (h : s.link.station = some a) :
    s.serveLinkCounts.data = sentU 2 s.link.counters.gapAborts ++ sentU 2 s.link.counters.lengthErrors
      ++ sentU 2 s.link.counters.crcErrors ++ sentU 2 s.link.counters.overruns
      ++ sentU 2 s.link.counters.characterErrors ++ [1, a, s.link.group]
      ++ sentU 2 s.link.divisor ++ sentU 4 (roundDiv 48000000 s.link.divisor).toNat := by
  simp only [State.serveLinkCounts, h, sentOpt, sentB_toNat, List.append_assoc]
  rfl

end

/-- Settles O43: what each of the three makes of the link, answered and not. -/
theorem linkRequestsServed : Obligations.LinkRequestsServed := by
  intro s h rate group d r hd hr
  refine ⟨fun q => ?answered, fun q hfree hother ha => ?unanswered⟩
  case answered =>
    obtain ⟨-, hstation, -⟩ := id q
    have hown : (∀ a, s.link.station = some a → group ≠ a.toNat) ↔ group ≠ h.address.toNat := by
      simp [hstation]
    refine ⟨?counts, fun hout => ?range, fun hlow hhigh hgroup => ?set, ?restart⟩
    case counts =>
      rw [exec_of_request rfl, State.request_answered q (r := .linkCounts) rfl hstation,
        ← State.serveLinkCounts_data hstation]
      rfl
    case range =>
      have hrange : linkSetInRange s.link.station rate group = false := by
        rw [← Bool.not_eq_true, linkSetInRange_iff, hown]
        omega
      exact exec_of_refused q (.linkSet rate group) rfl (State.serveLinkSet_of_out hrange) rfl
    case set =>
      have hrange := linkSetInRange_iff.mpr ⟨⟨hlow, hhigh⟩, hgroup.imp_right (.imp_right hown.mpr)⟩
      obtain ⟨hmin, hmax⟩ := divisor_bounds hd hlow hhigh
      refine ⟨hmin, hmax, ?_⟩
      rw [exec_of_request rfl, State.request_answered q (r := .linkSet rate group)
        (State.serveLinkSet_of_in hrange hd hr) hstation]
      rfl
    case restart =>
      rw [exec_of_request rfl, State.request_answered q (r := .restart) rfl hstation]
      rfl
  case unanswered =>
    have htake {i : Instr} {r : Request} (hi : i.request = some (h, r)) :
        exec i s = .next ((s.serve r).finish false r.code h.tag) := by
      rw [exec_request_of_quiet hi q, State.takeRequest_of_free ha hfree, decide_eq_false hother,
        State.serveRequest]
    refine ⟨fun hlow hhigh hgroup => ?_, htake (r := .restart) rfl⟩
    have hrange := linkSetInRange_iff.mpr ⟨⟨hlow, hhigh⟩, hgroup⟩
    rw [htake (r := .linkSet rate group) rfl, State.serve, State.serveLinkSet_of_in hrange hd hr]
    rfl

end Sys2Proof.Machine
end

/-! ### The reply's end and the buffered frame (09 R151, R157 to R159, R163, R164) -/

section
namespace Sys2Proof.Machine

section
variable {s : State}

/-! #### The reply's end (09 R159, R163, R164) -/

theorem exec_replySent (q : s.Quiet) : exec .replySent s = .next s.replyEnd :=
  congrArg (fun t : State => Host.Outcome.next t.replyEnd) (s.settle_of_quiet q)

theorem State.replyEnd_of_free (h : s.link.inService = none) : s.replyEnd = s := by
  rw [State.replyEnd, h]

/-- What the end of a reply makes due. -/
def AfterReply.makeDue (v : Arrival) : AfterReply → Arrival
  | .nothing => v
  | .baud d => { v with baud := some d }
  | .restart => { v with restart := true }

theorem State.replyEnd_of_busy {q : InService} (h : s.link.inService = some q) :
    s.replyEnd = (s.withLink { s.link with inService := none }).withArrival (q.after.makeDue s.arrival) := by
  rw [State.replyEnd, h]
  dsimp only
  split <;> next hafter => rw [hafter]; rfl

theorem State.takeBaud_of_idle (h : s.arrival.baud = none) : s.takeBaud = s := by
  rw [State.takeBaud, h]

theorem State.takeBaud_of_due {d : Nat} (h : s.arrival.baud = some d) : s.takeBaud =
    (s.withLink { s.link with divisor := d }).withArrival { s.arrival with baud := none } := by
  rw [State.takeBaud, h]

/-! #### The reply line (09 R151, R159) -/

theorem State.replyBits_of_free (h : s.link.inService = none) : s.replyBits = none := by
  rw [State.replyBits, State.replyFrame, h]
  rfl

theorem State.replyBits_of_busy {q : InService} (h : s.link.inService = some q) :
    s.replyBits = some (q.reply.frame.flatMap characterBits) := by
  rw [State.replyBits, State.replyFrame, h]
  rfl

/-! #### The buffered frame (09 R157) -/

theorem exec_bufferedFrameService_of_idle (h : s.link.buffer = none ∨ s.link.inService ≠ none) :
    exec .bufferedFrameService s = .next s := by
  have hdue : s.bufferedDue = false := by
    rcases h with h | h
    · rw [State.bufferedDue, h]
      rfl
    · rw [State.bufferedDue, Option.isNone_eq_false_iff.mpr (Option.isSome_iff_ne_none.mpr h), Bool.and_false]
  simp only [exec, execBufferedFrameService, hdue, Bool.false_eq_true, if_false]

/-- 09 R157: with nothing else due, the frame leaves the buffer and enters service. -/
theorem exec_bufferedFrameService_of_due (q : s.QuietArrival) (hbaud : s.arrival.baud = none)
    (hrestart : s.arrival.restart = false) (hfree : s.link.inService = none) {f : Frame}
    (hbuffer : s.link.buffer = some f) : exec .bufferedFrameService s =
      .next ((s.withLink { s.link with buffer := none }).serveFrame f) := by
  have hdue : s.bufferedDue = true := by
    rw [State.bufferedDue, hbuffer, hfree]
    rfl
  simp only [exec, execBufferedFrameService, hdue, if_true, s.settleArrival_of_quiet q,
    State.takeBaud_of_idle hbaud, State.takeRestart, hrestart, Bool.false_eq_true, if_false,
    State.takeBuffered, hfree, hbuffer]

/-- 09 R159: an own request that has been served is in service with its reply, and the buffer is as it was. -/
theorem State.serveRequest_own (s : State) {h : Header} (hstation : s.link.station = some h.address)
    (r : Request) : ∃ q, (s.serveRequest true h.tag r).link.inService = some q
      ∧ (s.serveRequest true h.tag r).link.buffer = s.link.buffer
      ∧ q.reply.address = h.address ∧ q.reply.code = r.code ∧ q.reply.tag = h.tag := by
  obtain ⟨hstation', -, hbuffer⟩ := s.serve_link r
  rw [State.serveRequest, Served.finish_answered (hstation'.trans hstation)]
  exact ⟨_, rfl, hbuffer, rfl, rfl, rfl⟩

/-- 09 R159: a request that is not answered leaves the service and the buffer as they were. -/
theorem State.serveRequest_other (s : State) (tag : Byte) (r : Request) :
    (s.serveRequest false tag r).link.inService = s.link.inService
      ∧ (s.serveRequest false tag r).link.buffer = s.link.buffer := by
  obtain ⟨-, hservice, hbuffer⟩ := s.serve_link r
  unfold State.serveRequest Served.finish
  cases (s.serve r).after <;> exact ⟨hservice, hbuffer⟩

end

/-- Settles O41: the reply's end by what it brings, and a buffered frame by its payload and its address. -/
theorem replyEndReleasesService : Obligations.ReplyEndReleasesService := by
  intro s
  refine ⟨fun q hfree => ?free, fun r q hbusy hafter => ?nothing, fun r d q hbusy hafter => ?baud,
    fun r q hbusy hafter => ?restart, fun hbaud => congrArg Host.Outcome.next (State.takeBaud_of_idle hbaud),
    fun d hbaud => congrArg Host.Outcome.next (State.takeBaud_of_due hbaud), State.replyBits_of_free,
    fun r hbusy => State.replyBits_of_busy hbusy, exec_bufferedFrameService_of_idle,
    fun q hbaud hrestart hfree h u hu => ?buffered⟩
  case free => rw [exec_replySent q, State.replyEnd_of_free hfree]
  case nothing | baud | restart =>
    rw [exec_replySent q, State.replyEnd_of_busy hbusy, hafter]
    rfl
  case buffered =>
    have hquiet : u.Quiet := hu ▸ ⟨q, hbaud, hrestart, rfl⟩
    have hufree : u.link.inService = none := hu ▸ hfree
    have hustation : u.link.station = s.link.station := hu ▸ rfl
    have hubuffer : u.link.buffer = none := hu ▸ rfl
    have hserved {f : Frame} (hbuffer : s.link.buffer = some f) :
        exec .bufferedFrameService s = .next (u.serveFrame f) :=
      hu ▸ exec_bufferedFrameService_of_due q hbaud hrestart hfree hbuffer
    have hcommand {i : Instr} {r : Request} (hi : i.request = some (h, r)) (ha : u.Addressed h.address) :
        exec i u = .next (u.serveRequest (decide (u.link.station = some h.address)) h.tag r) := by
      rw [exec_request_of_quiet hi hquiet, State.takeRequest_of_free ha hufree]
    refine ⟨?own, ?group, ?foreign⟩
    case own =>
      intro i r hi hr hown hbuffer
      rw [← hustation] at hown
      obtain ⟨p, hservice, hbuffer', haddress, hcode, htag⟩ := u.serveRequest_own hown r
      have hempty := hbuffer'.trans hubuffer
      rw [hserved hbuffer, State.serveFrame_encodePayload hr, hcommand hi (.inl hown), decide_eq_true hown]
      exact ⟨rfl, _, p, rfl, hservice, hempty, congrArg Option.isSome hempty, haddress, hcode, htag⟩
    case group =>
      intro i r hi hr hother ha hbuffer
      rw [← hustation] at hother
      have ha' : u.Addressed h.address := hu ▸ ha
      obtain ⟨hservice, hbuffer'⟩ := u.serveRequest_other h.tag r
      have hempty := hbuffer'.trans hubuffer
      rw [hserved hbuffer, State.serveFrame_encodePayload hr, hcommand hi ha', decide_eq_false hother]
      exact ⟨rfl, _, rfl, hservice.trans hufree, hempty, congrArg Option.isSome hempty⟩
    case foreign =>
      intro code rest own st hst hbuffer
      have hforeign : requestLen code.toNat ≠ some (rest.length + 1) := by
        rcases hst with ⟨hnone, -⟩ | ⟨-, n, hn, hne⟩
        · simp [hnone]
        · simpa [hn] using hne
      have hstatus : foreignStatus code = st := by
        rcases hst with ⟨hnone, rfl⟩ | ⟨rfl, n, hn, -⟩
        · rw [foreignStatus, if_pos hnone]
        · rw [foreignStatus, if_neg (by simp [hn])]
      rw [hserved hbuffer, State.serveFrame_foreign hforeign, hstatus, ← hustation]
      refine ⟨fun hown hstation htag => ?_, fun hown hstation hrest => ⟨u.foreignTag rest, ?_⟩, fun hown => ?_⟩
      · rw [hown, State.finish_refuse_own hstation, State.foreignTag, htag]
        rfl
      · rw [hown, State.finish_refuse_own hstation]
      · rw [hown, State.finish_refuse_other, show u.freeCount = s.freeCount from hu ▸ rfl]

end Sys2Proof.Machine
end

/-! ### The drive port's report and the status unit (10 R169 to R175, R179) -/

section
namespace Sys2Proof.Machine

/-! #### The data line (10 R171, 11 R179) -/

section
variable {s : State}

@[simp] theorem bitsMsbFirst_length (b : Byte) : (bitsMsbFirst b).length = 8 := by
  rw [bitsMsbFirst, List.length_map, List.length_range]

theorem bitsMsbFirst_getElem? (b : Byte) {j : Nat} (hj : j < 8) :
    (bitsMsbFirst b)[j]? = some (b.toNat.testBit (7 - j)) := by
  rw [bitsMsbFirst, List.getElem?_map, List.getElem?_range hj, Option.map_some, BitVec.getMsbD,
    decide_eq_true hj, Bool.true_and]
  rfl

theorem frameBits_length (f : Bytes) : (f.flatMap bitsMsbFirst).length = 8 * f.length := by
  induction f with
  | nil => rfl
  | cons b f ih =>
    rw [List.flatMap_cons, List.length_append, bitsMsbFirst_length, ih, List.length_cons]
    omega

/-- 11 R179: byte `i` takes the places from `8 * i` on, its most significant bit first. -/
theorem frameBits_getElem? {f : Bytes} {i j : Nat} {b : Byte} (hb : f[i]? = some b) (hj : j < 8) :
    (f.flatMap bitsMsbFirst)[8 * i + j]? = some (b.toNat.testBit (7 - j)) := by
  induction f generalizing i with
  | nil => simp at hb
  | cons c f ih =>
    rw [List.flatMap_cons]
    cases i with
    | zero =>
      obtain rfl : c = b := by simpa using hb
      rw [List.getElem?_append_left (by simpa using hj), Nat.mul_zero, Nat.zero_add,
        bitsMsbFirst_getElem? c hj]
    | succ i =>
      have hplace : 8 * (i + 1) + j - (bitsMsbFirst c).length = 8 * i + j := by
        rw [bitsMsbFirst_length]
        omega
      rw [List.getElem?_append_right (by rw [bitsMsbFirst_length]; omega), hplace]
      exact ih (by simpa using hb)

theorem State.driveBits_of_idle (h : s.drive.sending = none) : s.driveBits = none := by
  rw [State.driveBits, h, Option.map_none]

theorem State.driveBits_of_sending {f : Bytes} (h : s.drive.sending = some f) :
    s.driveBits = some (f.flatMap bitsMsbFirst) := by
  rw [State.driveBits, h, Option.map_some]

end

/-! #### The parts of a report (10 R170) -/

/-- 10 R170: fresh, held or zero. -/
theorem reportPart_eq {α : Type} (zero : α) (valid : Bool) (formed : α) (last : Option α) :
    reportPart zero valid formed last =
    { value := if valid then formed else last.getD zero
      valid := valid
      held := !valid && last.isSome
      last := if valid then some formed else last } := by
  cases valid with
  | true => rfl
  | false => cases last <;> rfl

/-! #### The frame (11 section 11.5, R179) -/

theorem sentB_of_lt {n : Nat} (h : n < 256) : sentB n = [BitVec.ofNat 8 n] := by
  rw [← sentB_toNat, BitVec.toNat_ofNat, Nat.mod_eq_of_lt h]

theorem boolCode_le_one (b : Bool) : boolCode b ≤ 1 := by cases b <;> decide

theorem driveMarksCode_lt (m : Marks) : driveMarksCode m < 256 := by
  have := boolCode_le_one m.stale
  have := boolCode_le_one m.drift
  have := boolCode_le_one m.noTracker
  rw [driveMarksCode]
  omega

theorem State.driveMarksCode_conversionMarks (s : State) : driveMarksCode s.conversionMarks =
    (if s.air.ageLimit * 1000 < s.air.ageMs then 2 else 0) + (if s.driftNow then 4 else 0)
      + (if s.trackerTerm = none then 8 else 0) := by
  simp only [driveMarksCode, boolCode_eq, s.conversionMarks_stale, s.conversionMarks_noTracker, mul_ite,
    mul_one, mul_zero]
  rfl

section
variable (seq : BitVec 16) (k : Nat) (xy : ReportPart (Int × Int)) (y : ReportPart Int) (m : Marks)

theorem driveBody_eq : driveBody seq k xy y m =
    sentU 2 seq.toNat ++ sentU 8 k ++ sentS 6 xy.value.1 ++ sentS 4 xy.value.2 ++ sentS 6 y.value
      ++ [BitVec.ofNat 8 (boolCode xy.valid + 2 * boolCode xy.held + 4 * boolCode y.valid
        + 8 * boolCode y.held)]
      ++ [BitVec.ofNat 8 (driveMarksCode m)] ++ [0] := by
  have := boolCode_le_one xy.valid
  have := boolCode_le_one xy.held
  have := boolCode_le_one y.valid
  have := boolCode_le_one y.held
  rw [driveBody, sentB_of_lt (by omega), sentB_of_lt (driveMarksCode_lt m)]

theorem driveBody_length : (driveBody seq k xy y m).length = 29 := by
  simp [driveBody]

end

/-- 10 R170: the flags of a report. -/
theorem reportFlags_eq (xValid yValid : Bool) (lastXY : Option (Int × Int)) (lastY : Option Int) :
    boolCode xValid + 2 * boolCode (!xValid && lastXY.isSome) + 4 * boolCode yValid
        + 8 * boolCode (!yValid && lastY.isSome)
      = (if xValid then 1 else 0) + (if xValid = false ∧ lastXY ≠ none then 2 else 0)
        + (if yValid then 4 else 0) + (if yValid = false ∧ lastY ≠ none then 8 else 0) := by
  simp only [boolCode_eq, Bool.and_eq_true, Bool.not_eq_true', Option.isSome_iff_ne_none, mul_ite, mul_one,
    mul_zero]

/-- 11 R179: lead byte, body, and the CRC of the body, high byte first. -/
theorem driveFrame_eq (body : Bytes) : driveFrame body = 0xA7 :: body
    ++ [BitVec.ofNat 8 ((crcOf body).toNat / 256), BitVec.ofNat 8 ((crcOf body).toNat % 256)] := by
  have hlow : BitVec.ofNat 8 ((crcOf body).toNat / 256 ^ 0) = BitVec.ofNat 8 ((crcOf body).toNat % 256) := by
    apply BitVec.eq_of_toNat_eq
    simp
  rw [driveFrame, beBytes_two, hlow, pow_one]

/-! #### The report's expiry and the frame's end (10 R169 to R171) -/

section
variable {s : State}

/-- 10 R169, R170: the drive port after a report of the sample with the index `k`. -/
def State.reportedDrive (s : State) (k : Nat) : DriveUnit :=
  { s.drive with
    timer := 0, seq := s.drive.seq + 1
    lastXYaw := if s.xReferenced then some (s.position.x, s.position.yaw) else s.drive.lastXYaw
    lastY := if s.referenced .y then some s.position.y else s.drive.lastY
    sending := some (driveFrame (driveBody s.drive.seq k
      (reportPart (0, 0) s.xReferenced (s.position.x, s.position.yaw) s.drive.lastXYaw)
      (reportPart 0 (s.referenced .y) s.position.y s.drive.lastY) s.conversionMarks)) }

theorem State.reportNow_eq {k : Nat} (h : s.newest = some k) :
    s.reportNow = s.withDrive (s.reportedDrive k) := by
  simp only [State.reportNow, reportPart_eq, State.newestIndex_of_some h, State.reportedDrive]
  rfl

theorem exec_reportExpiry_of_idle (h : s.arrival.report = false) : exec .reportExpiry s = .next s := by
  simp only [exec, execReportExpiry, State.takeReport, h, Bool.false_eq_true, if_false]

/-- 10 R169: with no age tick before it, the expiry is the report alone. -/
theorem exec_reportExpiry_of_due {k : Nat} (h : s.arrival.report = true) (hage : s.arrival.ageTick = false)
    (hk : s.newest = some k) : exec .reportExpiry s =
      .next ((s.withArrival { s.arrival with report := false }).withDrive (s.reportedDrive k)) := by
  have hage' : s.takeAgeTick = s := by simp only [State.takeAgeTick, hage, Bool.false_eq_true, if_false]
  have htake : s.takeReport = (s.withArrival { s.arrival with report := false }).reportNow := by
    simp only [State.takeReport, h, if_true, hage']
  exact congrArg Host.Outcome.next (htake.trans (State.reportNow_eq hk))

theorem exec_driveFrameEnd (q : s.Quiet) :
    exec .driveFrameEnd s = .next (s.withDrive { s.drive with sending := none }) :=
  congrArg (fun t : State => Host.Outcome.next (t.withDrive { t.drive with sending := none }))
    (s.settle_of_quiet q)

end

/-- Settles O33: the data line bit by bit, and the frame of a report from its parts. -/
theorem reportFormsFrame : Obligations.ReportFormsFrame := by
  refine ⟨fun _ => exec_reportExpiry_of_idle, fun _ => exec_driveFrameEnd,
    fun _ => State.driveBits_of_idle, fun s f hf => ?line, ?report⟩
  case line =>
    exact ⟨_, State.driveBits_of_sending hf, frameBits_length f, fun _ _ _ => frameBits_getElem?⟩
  case report =>
    intro s k xValid yValid x yaw y body hdue hage hk hxValid hyValid hfresh hzero hheld hyFresh hyHeld
      hbody
    have hxy : (x, yaw)
        = if xValid then (s.position.x, s.position.yaw) else s.drive.lastXYaw.getD (0, 0) := by
      cases hv : xValid with
      | true => exact Prod.ext_iff.mpr (hfresh hv)
      | false =>
        cases hlast : s.drive.lastXYaw with
        | none => exact Prod.ext_iff.mpr (hzero hv hlast)
        | some p => exact Prod.ext_iff.mpr (hheld p.1 p.2 hv hlast)
    have hy : y = if yValid then s.position.y else s.drive.lastY.getD 0 := by
      cases hv : yValid with
      | true => exact hyFresh hv
      | false => exact hyHeld hv
    have hformed : body = driveBody s.drive.seq k
        (reportPart (0, 0) xValid (s.position.x, s.position.yaw) s.drive.lastXYaw)
        (reportPart 0 yValid s.position.y s.drive.lastY) s.conversionMarks := by
      rw [hbody, driveBody_eq, reportPart_eq, reportPart_eq, reportFlags_eq,
        s.driveMarksCode_conversionMarks, ← hxy, ← hy]
    have hlastXYaw : (if xValid then some (x, yaw) else s.drive.lastXYaw)
        = if xValid then some (s.position.x, s.position.yaw) else s.drive.lastXYaw := by
      rw [hxy]
      cases xValid <;> rfl
    have hlastY : (if yValid then some y else s.drive.lastY)
        = if yValid then some s.position.y else s.drive.lastY := by
      rw [hy]
      cases yValid <;> rfl
    refine ⟨hformed ▸ driveBody_length .., ?_⟩
    rw [exec_reportExpiry_of_due hdue hage hk, hlastXYaw, hlastY, ← driveFrame_eq, hformed, hxValid,
      hyValid]
    rfl

/-! #### Sets of events (10 R173, R174) -/

theorem Event.exists_index {i : Nat} (h : i < 12) : ∃ e : Event, e.index = i := by
  interval_cases i
  exacts [⟨.lostXL, rfl⟩, ⟨.lostXR, rfl⟩, ⟨.lostY, rfl⟩, ⟨.lostT, rfl⟩, ⟨.passDone, rfl⟩,
    ⟨.passAborted, rfl⟩, ⟨.fitDone, rfl⟩, ⟨.compStale, rfl⟩, ⟨.compDrift, rfl⟩, ⟨.rerefEnd, rfl⟩,
    ⟨.linkFault, rfl⟩, ⟨.restarted, rfl⟩]

/-- The twelve bits of a set are its twelve events. -/
theorem EventSet.ext_mem {S T : EventSet} (h : ∀ e : Event, e.mem S = e.mem T) : S = T := by
  refine BitVec.eq_of_getLsbD_eq fun i hi => ?_
  obtain ⟨e, rfl⟩ := Event.exists_index hi
  exact h e

theorem Event.mem_empty (e : Event) : e.mem 0 = false := BitVec.getLsbD_zero

theorem Event.mem_and (e : Event) (S T : EventSet) : e.mem (S &&& T) = (e.mem S && e.mem T) :=
  BitVec.getLsbD_and

theorem EventSet.ne_empty_iff {S : EventSet} : S ≠ 0 ↔ ∃ e : Event, e.mem S = true := by
  constructor
  · intro hne
    by_contra hnone
    refine hne (EventSet.ext_mem fun e => ?_)
    rw [e.mem_empty, Bool.eq_false_iff]
    exact fun he => hnone ⟨e, he⟩
  · rintro ⟨e, he⟩ rfl
    rw [e.mem_empty] at he
    exact Bool.false_ne_true he

/-- 10 R174, 11 R178: bits 12 to 15 of the field select nothing. -/
theorem Event.mem_eventSetOfField (e : Event) (n : Nat) :
    e.mem (eventSetOfField n) = n.testBit e.index := by
  have hlt : e.index < 12 := by cases e <;> decide
  rw [Event.mem, eventSetOfField, BitVec.getLsbD_ofNat, decide_eq_true hlt, Bool.true_and]

theorem State.attn_iff (s : State) : s.attn = true
    ↔ ∃ e : Event, e.mem s.status.sticky = true ∧ e.mem s.status.mask = true := by
  simp only [State.attn, StatusUnit.attn, bne_iff_ne, EventSet.ne_empty_iff, Event.mem_and,
    Bool.and_eq_true]

/-- Settles O44: ATTN by the events of the two sets, and the two requests by their owner's answers. -/
theorem statusUnitServed : Obligations.StatusUnitServed := by
  refine ⟨State.attn_iff, fun s e f => ?raised, fun s h q => ⟨?status, fun events m hm => ?mask⟩⟩
  case raised =>
    rw [s.mem_raise, Bool.or_eq_true, decide_eq_true_iff, or_comm, eq_comm]
  case status =>
    exact ⟨s.newestIndex, fun _ => State.newestIndex_of_some, exec_of_taken q .status rfl rfl rfl rfl⟩
  case mask =>
    have hselected : eventSetOfField events = m :=
      EventSet.ext_mem fun e => (e.mem_eventSetOfField events).trans (hm e).symm
    subst hselected
    exact exec_of_taken q (.attnMask events) rfl rfl rfl rfl

end Sys2Proof.Machine
end

/-! ### Decode after encode (11 section 11.1, R177) -/

section
namespace Sys2Proof.Machine

/-- Settles O37: every field is read back at its offset, and the catalogue's length is the payload's. -/
theorem decodeOfEncodedPayload : Obligations.DecodeOfEncodedPayload :=
  fun tag r h => ⟨decodePayload_encodePayload tag h, requestLen_code tag r⟩

end Sys2Proof.Machine
end

/-! ### A step of the queue (00 "Events and resets", log entry 1) -/

section
namespace Sys2Proof.Machine

theorem step_of_pending_nil {s : State} (h : s.pending = []) : step s = .next s := by
  rw [step, h]

theorem step_of_pending_cons {s : State} {c : Instr} {rest : List Instr} (h : s.pending = c :: rest) :
    step s = exec c (s.withPending rest) := by
  rw [step, h]

/-- Putting a command in front and taking it off again restores the state. -/
theorem State.withFront_withPending (s : State) (c : Instr) :
    (s.withFront c).withPending s.pending = s := rfl

theorem step_withFront (c : Instr) (s : State) : step (s.withFront c) = exec c s :=
  calc step (s.withFront c)
      _ = exec c ((s.withFront c).withPending s.pending) := step_of_pending_cons rfl
      _ = exec c s := by rw [s.withFront_withPending c]

/-- Settles O1, by the queue's two shapes: a command at its front, or empty. -/
theorem stepTakesFront : Obligations.StepTakesFront :=
  ⟨step_withFront, fun _ => step_of_pending_nil⟩

end Sys2Proof.Machine
end
